-- ==== Sys2Proof/Word.lean ====
section
/-! DEFINITION. The bit-vector types of the block (spec/00_scope.md R10, R60; spec/30_encoding.md R90). -/

namespace Sys2Proof

/-- A byte: 8 bits (R10). -/
abbrev Byte := BitVec 8

/-- A word: 32 bits (R10), the only transfer width of the host bus (R60). -/
abbrev Word := BitVec 32

/-- A host bus address: a 20-bit byte address (R60). -/
abbrev Addr := BitVec 20

/-- A palette code: 2 bits (R15, R130). -/
abbrev Code := BitVec 2

end Sys2Proof
end

