-- ==== Sys2Proof/Config.lean ====
section
/-! DEFINITION. The fixed parameters of the block (spec/00_scope.md R7), the type of its one open parameter PALETTE and
the default the spec's vectors use (R8, R131). -/

namespace Sys2Proof

/-- One pixel or canonical colour: three 8-bit unsigned channels (R15 "Pixel"). -/
structure Rgb where
  r : Byte
  g : Byte
  b : Byte
deriving DecidableEq, Repr

/-- The four palette colours (R130). -/
inductive Colour where
  | white
  | black
  | red
  | yellow
deriving DecidableEq, Repr

/-- The parameter PALETTE: the canonical RGB of each colour (R8). The source gives no values, so the machine holds its
palette in State (PAL_*, R34) and every statement about all states holds for every palette. -/
structure Palette where
  white  : Rgb
  black  : Rgb
  red    : Rgb
  yellow : Rgb
deriving DecidableEq, Repr

/-- South-west diffusion policy at column 0, CONFIG.WEST_EDGE (R26, R153). The value 3 is never stored, so the type has
no fourth member (spec/93_implementation_defined.md X3). -/
inductive WestEdge where
  | skip
  | clamp
  | wrap
deriving DecidableEq, Repr

/-- RASTER_WIDTH, W (R7). -/
abbrev Config.rasterWidth : Nat := 250

/-- RASTER_HEIGHT, H (R7). -/
abbrev Config.rasterHeight : Nat := 124

/-- NPIX = W·H (R7). -/
abbrev Config.pixels : Nat := 31000

/-- PACKED_BYTES = W·H·2/8 (R7). -/
abbrev Config.packedBytes : Nat := 7750

/-- FE_PAYLOAD_BYTES (R7). -/
abbrev Config.payloadBytes : Nat := 256

/-- FE_FRAME_BYTES (R7). -/
abbrev Config.frameBytes : Nat := 260

/-- FRAME_START (R7). -/
abbrev Config.frameStart : Byte := 0x5C#8

/-- FRAME_END (R7). -/
abbrev Config.frameEnd : Byte := 0x7A#8

/-- The constant the ID register reads (R3, R22). -/
abbrev Config.idValue : Word := 0x434F4C51#32

/-- The Q.8 scale 2^FRAC_BITS (R7, R150). -/
abbrev Config.q8Scale : Int := 256

/-- PALETTE_DEFAULT (R8, R131). DESIGN CHOICE of the spec (D2), unsafe: log entry 1. -/
def Config.paletteDefault : Palette where
  white  := { r := 255, g := 255, b := 255 }
  black  := { r := 0, g := 0, b := 0 }
  red    := { r := 255, g := 0, b := 0 }
  yellow := { r := 255, g := 255, b := 0 }

/-- The largest chunk of the Packetizer, a host-side constant (R237). -/
abbrev Config.packetBytes : Nat := 64

end Sys2Proof
end

