-- ==== Sys2Proof/Syntax.lean ====
section
/-! DEFINITION. What is executed: the commands (spec/30_encoding.md R91), the names of the registers and RAM windows
(spec/10_state.md, spec/20_memory.md R62), what the host can do on its port (R60) and the host-program notation
(R97 to R99). -/

namespace Sys2Proof

/-- The five commands of the opcode table (R91). None of them has an operand field (R90). -/
inductive Instr where
  | nop
  | quantize
  | dither
  | pack
  | encodeFrame
deriving DecidableEq, Repr

/-- The sixteen registers of the register window, in offset order (spec/10_state.md §2). -/
inductive Reg where
  | id
  | cmd
  | status
  | intEn
  | config
  | rasterW
  | rasterH
  | qRgb
  | qCode
  | feCmdId
  | fePayloadLen
  | feFrameLen
  | palWhite
  | palBlack
  | palRed
  | palYellow
deriving DecidableEq, Repr

/-- The six RAM windows of the address map (R62). -/
inductive Window where
  | src
  | dst
  | code
  | pack
  | fePayload
  | feFrame
deriving DecidableEq, Repr

/-- What the host does next at its port (R20, R60). `read` and `write` are one bus transaction each. `poll` is the loop
of R99: it reads STATUS until bit 0 of the returned word is 0. `waitIrq` issues no transaction and waits for the `irq`
output (R75, program P7 of spec/95_test_vectors.md). -/
inductive HostAction where
  | read (addr : Addr)
  | write (addr : Addr) (data : Word)
  | poll
  | waitIrq
deriving DecidableEq, Repr

/-- Whose turn it is (R20): the host's next action, the engine's completion step, or the input `rst` at 1 (R250, R251).
`reset lost` stands for `rst` held at 1 while the host's next `lost` actions fall in that time and are discarded
(R251, R254). -/
inductive Turn where
  | host
  | engine
  | reset (lost : Nat)
deriving DecidableEq, Repr

/-- The address of a host-program line (R97): a register name, an element or word of a window, or an integer. -/
inductive Place where
  | reg (r : Reg)
  | elem (w : Window) (k : Nat)
  | literal (a : Addr)
deriving DecidableEq, Repr

/-- One line of a host program: R97 (WR, RD, RD with a claimed value, comment) and the pseudo-instructions of R99. -/
inductive HostLine where
  | wr (p : Place) (data : Word)
  | rd (p : Place)
  | rdGives (p : Place) (value : Word)
  | comment (text : String)
  | poll
  | run (i : Instr)
  | fill (w : Window) (first count : Nat) (data : Word)
  | clear
  | expect (r : Reg) (value : Word)
deriving DecidableEq, Repr

end Sys2Proof
end

