-- ==== Sys2Proof/WellFormed.lean ====
section
/-! DEFINITION. What counts as well formed: the parameter PALETTE (spec/41_quantizer.md R131), a command, and the lines
of a host program (spec/30_encoding.md R97, R99). -/

namespace Sys2Proof

/-- The four triples of a PALETTE are pairwise distinct; "a model refuses a PALETTE with two equal triples" (R131). -/
def Palette.wellFormed (p : Palette) : Bool :=
  p.white != p.black && p.white != p.red && p.white != p.yellow &&
    p.black != p.red && p.black != p.yellow && p.red != p.yellow

/-- A command has no register, immediate or mode field (R90), so no term of `Instr` is ill formed: what R92 calls an
illegal word decodes to no term at all. -/
def Instr.wellFormed : Instr → Bool
  | .nop | .quantize | .dither | .pack | .encodeFrame => true

/-- The number of 32-bit words of each window (R62, column "words"). -/
def Window.words : Window → Nat
  | .src | .dst | .code => 31000
  | .pack => 1938
  | .fePayload => 64
  | .feFrame => 65

/-- A symbolic address names an element or word that the window has (R62, R97). -/
def Place.wellFormed : Place → Bool
  | .reg _ => true
  | .elem w k => decide (k < w.words)
  | .literal _ => true

/-- A host-program line is well formed when its addresses are, and a FILL stays inside its window (R97, R99). -/
def HostLine.wellFormed : HostLine → Bool
  | .wr p _ | .rd p | .rdGives p _ => p.wellFormed
  | .comment _ | .poll | .clear | .expect _ _ => true
  | .run i => i.wellFormed
  | .fill w first count _ => decide (first + count ≤ w.words)

end Sys2Proof
end

