-- ==== Sys2Proof/Decode.lean ====
section
/-! DEFINITION. Command words: the decoder, total on every 32-bit word and rejecting by name, and the encoder after it
(spec/30_encoding.md R90 to R96). -/

namespace Sys2Proof

/-- Why a command word is illegal (R92). -/
inductive DecodeError where
  /-- RSVD, bits [31:8], is not 0, whatever the opcode. -/
  | reservedBits (rsvd : BitVec 24)
  /-- OPC is in 0x05 to 0xFF, which R93 reserves. -/
  | reservedOpcode (opc : Byte)
deriving DecidableEq, Repr

/-- The field OPC, bits [7:0] (R90). -/
def opcField (w : Word) : Byte := w.extractLsb' 0 8

/-- The field RSVD, bits [31:8] (R90). -/
def rsvdField (w : Word) : BitVec 24 := w.extractLsb' 8 24

/-- The opcode map (R91). -/
def decodeOpc (opc : Byte) : Except DecodeError Instr :=
  match opc.toNat with
  | 0 => .ok .nop
  | 1 => .ok .quantize
  | 2 => .ok .dither
  | 3 => .ok .pack
  | 4 => .ok .encodeFrame
  | _ => .error (.reservedOpcode opc)

/-- Decode a command word: a word selects a command only when all 32 bits equal the table's word (R91, R92). -/
def decode (w : Word) : Except DecodeError Instr :=
  if rsvdField w = 0 then decodeOpc (opcField w) else .error (.reservedBits (rsvdField w))

/-- The opcode of each command (R91). -/
def Instr.opc : Instr → Byte
  | .nop => 0x00
  | .quantize => 0x01
  | .dither => 0x02
  | .pack => 0x03
  | .encodeFrame => 0x04

/-- The command word {RSVD = 0, OPC} of a command (R90, R91). -/
def encode (i : Instr) : Word := (0#24 ++ i.opc : BitVec 32)

/-- The decoder on a word numbered as spec/opcode_table.json numbers it. A command word is one 32-bit bus write (R96), so
bit k of `w` is bit k of the word; bits above `nbits` are 0, and a longer instruction does not exist. -/
def decodeTableWord (nbits w : Nat) : Option Instr :=
  if nbits ≤ 32 ∧ w < 2 ^ nbits then
    match decode (BitVec.ofNat 32 w) with
    | .ok i => some i
    | .error _ => none
  else none

end Sys2Proof
end

