-- ==== Sys2Proof/Machine/State.lean ====
section
/-! DEFINITION. The state of the block as plain data: every register and RAM of spec/10_state.md, the hidden state of
R46 and R47, and the model's own record of what the environment does next and what the port last returned. -/

namespace Sys2Proof.Machine

/-- A RAM with its written marks (R42): the written elements as (index, element), the indices strictly rising, an
unlisted element being one whose mark is clear, which reads as no value at all. A `Memory Byte` is a `List Host.Cell`. -/
abbrev Memory (α : Type) := List (Nat × α)

/-- The canonical form of a RAM of `size` elements: indices strictly rising and all in range. No listed element can
equal what an unlisted one reads as, since that is no value (R42). -/
def Memory.wf {α : Type} (size : Nat) (m : Memory α) : Bool :=
  decide ((m.map Prod.fst).Pairwise (· < ·)) && m.all (fun c => decide (c.1 < size))

/-- ERR_CODE (R221). Codes 4 to 15 are never produced, and no term stands for them
(spec/93_implementation_defined.md X2). -/
inductive ErrCode where
  | none
  | illegalCommand
  | dimensionMismatch
  | payloadTooLarge
deriving DecidableEq, Repr

/-- STATUS (R24). The reserved bits [31:8] read 0 and hold nothing. -/
structure Status where
  busy      : Bool
  done      : Bool
  err       : Bool
  accessErr : Bool
  errCode   : ErrCode
deriving DecidableEq, Repr

/-- INT_EN (R25). The reserved bits [31:3] read 0 and hold nothing. -/
structure IntEn where
  doneIe      : Bool
  errIe       : Bool
  accessErrIe : Bool
deriving DecidableEq, Repr

/-- One element of the hidden ACC: three 32-bit two's-complement Q.8 channels (R46, R150). -/
structure AccCell where
  r : BitVec 32
  g : BitVec 32
  b : BitVec 32
deriving DecidableEq, Repr

/-- The whole machine. -/
structure State where
  /-- PAL_WHITE, PAL_BLACK, PAL_RED, PAL_YELLOW: the parameter PALETTE, a constant of the build (R8, R34). -/
  palette : Palette
  /-- STATUS (R24). -/
  status : Status
  /-- INT_EN (R25). -/
  intEn : IntEn
  /-- CONFIG.WEST_EDGE (R26). -/
  westEdge : WestEdge
  /-- RASTER_W[15:0] (R27). -/
  rasterW : BitVec 16
  /-- RASTER_H[15:0] (R28). -/
  rasterH : BitVec 16
  /-- Q_RGB[23:0] (R29). -/
  qRgb : Rgb
  /-- Q_CODE[1:0] (R30). -/
  qCode : Code
  /-- FE_CMD_ID[7:0] (R31). -/
  feCmdId : Byte
  /-- FE_PAYLOAD_LEN[7:0] (R32). -/
  fePayloadLen : BitVec 8
  /-- FE_FRAME_LEN[8:0] (R33). -/
  feFrameLen : BitVec 9
  /-- CUR_CMD, the hidden command latch (R47). -/
  curCmd : Word
  /-- SRC_RAM, 31000 pixels (R36). -/
  src : Memory Rgb
  /-- DST_RAM, 31000 pixels (R37). -/
  dst : Memory Rgb
  /-- CODE_RAM, 31000 codes (R38). -/
  code : Memory Code
  /-- PACK_RAM, 7750 bytes (R39). -/
  pack : Memory Byte
  /-- FE_PAYLOAD, 256 bytes (R40). -/
  fePayload : Memory Byte
  /-- FE_FRAME, 260 bytes (R41). -/
  feFrame : Memory Byte
  /-- ACC, the hidden accumulation buffer, 31000 × 3 channels (R46). -/
  acc : Memory AccCell
  /-- MODEL'S OWN: the read data the port gave for the latest host transaction (R60, R250), none if it was a write or
  none has happened. Log entry 5. -/
  busData : Option Word
  /-- MODEL'S OWN: what the host will do, in order (R20, R74). Log entry 5. -/
  hostProg : List HostAction
  /-- MODEL'S OWN: whose turns come next; when it is empty a BUSY engine moves before the host (R20, R115). Log
  entry 4. -/
  turns : List Turn
deriving DecidableEq, Repr

/-- Why the machine stops. -/
inductive Fault where
  /-- A host read or a command read an element whose written mark is clear: it "has no value", and "a model treats it as
  a fault" (R42). Raised by `busRead`, `execDither`, `execPack` and `execEncodeFrame`. Safe: the chip goes on with some
  value and the model refuses to name it. -/
  | unwrittenRead (ram : Window) (index : Nat)
deriving DecidableEq, Repr

/-- Why the machine gives no meaning. -/
inductive Refusal where
  /-- An instruction without a meaning. No arm of `exec` answers it. Safe. -/
  | notModelled (mnemonic : String)
  /-- The machine was built with a PALETTE that has two equal triples: "a model refuses a PALETTE with two equal
  triples" (R131). Raised by `step`. Safe. -/
  | equalPaletteTriples
deriving DecidableEq, Repr

/-- What one step answers. -/
abbrev Result := Host.Outcome State Fault Refusal

/-- STATUS at reset (R24, R45). -/
def Status.reset : Status :=
  { busy := false, done := false, err := false, accessErr := false, errCode := .none }

/-- INT_EN at reset (R25, R45). -/
def IntEn.reset : IntEn := { doneIe := false, errIe := false, accessErrIe := false }

/-- The state after reset of a block built with palette `p` (R45, R253): every written mark clear (R42), the engine idle
(R251), no host action pending. CUR_CMD has no reset value in the spec (R47): DESIGN CHOICE 0, log entry 2. -/
def State.resetWith (p : Palette) : State where
  palette := p
  status := Status.reset
  intEn := IntEn.reset
  westEdge := .skip
  rasterW := 0
  rasterH := 0
  qRgb := { r := 0, g := 0, b := 0 }
  qCode := 0
  feCmdId := 0
  fePayloadLen := 0
  feFrameLen := 0
  curCmd := 0
  src := []
  dst := []
  code := []
  pack := []
  fePayload := []
  feFrame := []
  acc := []
  busData := none
  hostProg := []
  turns := []

/-- The machine right after reset (R253), built with PALETTE_DEFAULT: log entry 1. -/
def State.reset : State := State.resetWith Config.paletteDefault

end Sys2Proof.Machine
end

