-- ==== Sys2Proof/Machine/Flags.lean ====
section
/-! DEFINITION. Every computation on the STATUS flags and on `irq`: the words STATUS and INT_EN read as, what a write to
them does, accept, the two completions, and the interrupt output (R24, R25, R110, R113, R114, R221, R225). -/

namespace Sys2Proof.Machine

/-- The number ERR_CODE holds (R221). -/
def ErrCode.toBits : ErrCode → BitVec 4
  | .none => 0
  | .illegalCommand => 1
  | .dimensionMismatch => 2
  | .payloadTooLarge => 3

/-- The word STATUS reads as (R24). -/
def Status.toWord (f : Status) : Word :=
  (0#24 ++ f.errCode.toBits ++ BitVec.ofBool f.accessErr ++ BitVec.ofBool f.err ++ BitVec.ofBool f.done ++
    BitVec.ofBool f.busy : BitVec 32)

/-- A host write of `v` to STATUS: bits [3:1] are write-1-to-clear, clearing ERR clears ERR_CODE, every other bit of `v`
is ignored (R24). This is also how the host acknowledges an error (R228). -/
def Status.writeOneToClear (f : Status) (v : Word) : Status where
  busy := f.busy
  done := f.done && !v.getLsbD 1
  err := f.err && !v.getLsbD 2
  errCode := if v.getLsbD 2 then .none else f.errCode
  accessErr := f.accessErr && !v.getLsbD 3

/-- The flags after an accept: ACCESS_ERR alone is kept (R110). -/
def Status.accepted (f : Status) : Status :=
  { busy := true, done := false, err := false, errCode := .none, accessErr := f.accessErr }

/-- The flags after a success completion (R113). -/
def Status.completed (f : Status) : Status := { f with busy := false, done := true }

/-- The flags after an error completion with `code` (R114). -/
def Status.failed (f : Status) (code : ErrCode) : Status :=
  { f with busy := false, err := true, errCode := code }

/-- The flags after a rejected host transaction (R224). -/
def Status.rejected (f : Status) : Status := { f with accessErr := true }

/-- The word INT_EN reads as (R25). -/
def IntEn.toWord (e : IntEn) : Word :=
  (0#29 ++ BitVec.ofBool e.accessErrIe ++ BitVec.ofBool e.errIe ++ BitVec.ofBool e.doneIe : BitVec 32)

/-- What INT_EN holds after a write of `v` (R25, R64). -/
def IntEn.ofWord (v : Word) : IntEn :=
  { doneIe := v.getLsbD 0, errIe := v.getLsbD 1, accessErrIe := v.getLsbD 2 }

/-- The level-sensitive interrupt output (R225). -/
def State.irq (s : State) : Bool :=
  (s.status.done && s.intEn.doneIe) || (s.status.err && s.intEn.errIe) ||
    (s.status.accessErr && s.intEn.accessErrIe)

end Sys2Proof.Machine
end

