-- ==== Sys2Proof/Machine/Ops.lean ====
section
/-! DEFINITION. The shared operations: reading and writing a RAM with its written marks (R42), accepting a command
(R110), the two ways a command ends (R113, R114), how the host returns from an error (R228), and the answers of the
port (R60, R224). The block has no other form of exception: no traps, no vectors, no control transfer (R220, R227). -/

namespace Sys2Proof.Machine

/-- The element at an index, none where its written mark is clear (R42). -/
def Memory.read {α : Type} (m : Memory α) (i : Nat) : Option α := m.lookup i

/-- Write one element and set its mark, keeping the indices in rising order (R42). -/
def Memory.write {α : Type} : Memory α → Nat → α → Memory α
  | [], i, v => [(i, v)]
  | (k, u) :: m, i, v =>
    if i < k then (i, v) :: (k, u) :: m
    else if i = k then (i, v) :: m
    else (k, u) :: Memory.write m i v

/-- The values of `f` at the given indices, in order, or the first of these indices where it has none. -/
def collect {α : Type} (f : Nat → Option α) : List Nat → Except Nat (List α)
  | [] => .ok []
  | i :: is =>
    match f i with
    | none => .error i
    | some v =>
      match collect f is with
      | .ok vs => .ok (v :: vs)
      | .error e => .error e

/-- The elements at the given indices, in order, or the first of these indices whose mark is clear (R42). -/
def Memory.readEach {α : Type} (m : Memory α) (is : List Nat) : Except Nat (List α) := collect m.read is

/-- The RAM whose elements from index `k` on are `vs`, all marked written. -/
def Memory.ofListFrom {α : Type} : Nat → List α → Memory α
  | _, [] => []
  | k, v :: vs => (k, v) :: Memory.ofListFrom (k + 1) vs

/-- The RAM that a command leaves when it writes every element (R42, R157, R185, R203). -/
def Memory.ofList {α : Type} (vs : List α) : Memory α := Memory.ofListFrom 0 vs

/-- Accept of command word `w` (R110). -/
def State.accept (s : State) (w : Word) : State :=
  { s with curCmd := w, status := s.status.accepted }

/-- `complete()`: a success completion (R12, R113). -/
def State.complete (s : State) : State := { s with status := s.status.completed }

/-- `raise Error(code)`: an error completion (R12, R114). It saves nothing but ERR and ERR_CODE, changes no mode or mask
and transfers control nowhere; the engine is idle after it (R227). -/
def State.raiseError (s : State) (code : ErrCode) : State := { s with status := s.status.failed code }

/-- The host's acknowledgement of what a STATUS write of `v` names; of an error when v[2] = 1 (R24, R228). -/
def State.acknowledge (s : State) (v : Word) : State :=
  { s with status := s.status.writeOneToClear v }

/-- The port returns `v` for a host read (R60). -/
def State.returnWord (s : State) (v : Word) : State := { s with busData := some v }

/-- The port returns nothing: the transaction was a write (R60). -/
def State.returnNothing (s : State) : State := { s with busData := none }

/-- A rejected read returns 0x00000000 and sets ACCESS_ERR (R224). -/
def State.rejectRead (s : State) : State :=
  { s with status := s.status.rejected, busData := some 0#32 }

/-- A rejected write changes nothing but ACCESS_ERR (R224). -/
def State.rejectWrite (s : State) : State :=
  { s with status := s.status.rejected, busData := none }

end Sys2Proof.Machine
end

