-- ==== Sys2Proof/Machine/FastRead.lean ====
section
/-! DEFINITION. A quicker way to compute `Memory.readEach`, proved equal to it and used only where Lean compiles: a test
of a whole raster then takes seconds. The model is `Memory.readEach`. -/

namespace Sys2Proof.Machine

/-- The first `size` elements of a RAM as an array, none where the written mark is clear (R42). -/
def Memory.image {α : Type} (size : Nat) (m : Memory α) : Array (Option α) :=
  m.foldr (fun c a => a.setIfInBounds c.1 (some c.2)) (Array.replicate size none)

/-- `Memory.readEach` through an image of the RAM. -/
def Memory.readEachByImage {α : Type} (m : Memory α) (is : List Nat) : Except Nat (List α) :=
  let image := m.image (is.foldl max 0 + 1)
  collect (fun i => image.getD i none) is

theorem Memory.image_size {α : Type} (size : Nat) (m : Memory α) : (m.image size).size = size := by
  induction m with
  | nil => simp [Memory.image]
  | cons c m ih => simpa [Memory.image] using ih

theorem Memory.read_cons {α : Type} (k : Nat) (v : α) (m : Memory α) (i : Nat) :
    Memory.read ((k, v) :: m) i = if i = k then some v else Memory.read m i := by
  by_cases h : i = k
  · simp [Memory.read, List.lookup, h]
  · simp [Memory.read, List.lookup, h, beq_eq_false_iff_ne.mpr h]

theorem Memory.image_getD {α : Type} {size i : Nat} (m : Memory α) (h : i < size) :
    (m.image size).getD i none = m.read i := by
  induction m with
  | nil => simp [Memory.image, Memory.read, h]
  | cons c m ih =>
    obtain ⟨k, v⟩ := c
    have hs := Memory.image_size size m
    rw [Array.getD_eq_getD_getElem?] at ih ⊢
    rw [Memory.read_cons]
    simp only [Memory.image, List.foldr_cons, Array.getElem?_setIfInBounds] at *
    by_cases hc : k = i
    · subst hc
      simp [hs, h]
    · simp [hc, Ne.symm hc, ih]

theorem collect_congr {α : Type} {f g : Nat → Option α} {is : List Nat} (h : ∀ i ∈ is, f i = g i) :
    collect f is = collect g is := by
  induction is with
  | nil => rfl
  | cons i is ih => simp [collect, h i (by simp), ih fun j hj => h j (by simp [hj])]

theorem le_foldl_max (is : List Nat) (a : Nat) : a ≤ is.foldl max a ∧ ∀ i ∈ is, i ≤ is.foldl max a := by
  induction is generalizing a with
  | nil => simp
  | cons j is ih =>
    have := ih (max a j)
    simp only [List.foldl_cons, List.mem_cons, forall_eq_or_imp]
    exact ⟨by omega, by omega, this.2⟩

@[csimp] theorem Memory.readEach_eq_readEachByImage : @Memory.readEach = @Memory.readEachByImage := by
  funext α m is
  exact collect_congr fun i hi =>
    (Memory.image_getD m (Nat.lt_succ_of_le ((le_foldl_max is 0).2 i hi))).symm

end Sys2Proof.Machine
end

