-- ==== Sys2Proof/Machine/Operands.lean ====
section
/-! DEFINITION. The operand forms: how a register or RAM element is read as an operand (R94, R95), pixel, code and byte
words (R65 to R67), raster coordinates (R13), and the two pre-flight checks on operands (R157, R185, R202). -/

namespace Sys2Proof.Machine

/-- The row-major pixel number p(x, y) = y·W + x (R13). -/
def pixelIndex (x y : Nat) : Nat := y * Config.rasterWidth + x

/-- A pixel word {8'h00, R, G, B} (R65). -/
def pixelToWord (c : Rgb) : Word := (0#8 ++ c.r ++ c.g ++ c.b : BitVec 32)

/-- The pixel of a word: R in [23:16], G in [15:8], B in [7:0]; bits [31:24] are ignored (R65). -/
def pixelOfWord (v : Word) : Rgb :=
  { r := v.extractLsb' 16 8, g := v.extractLsb' 8 8, b := v.extractLsb' 0 8 }

/-- The code word zext_32(CODE[p]) (R66). -/
def codeToWord (c : Code) : Word := c.setWidth 32

/-- The code of a word, v[1:0] (R66). -/
def codeOfWord (v : Word) : Code := v.extractLsb' 0 2

/-- Byte lane i of a word, bits [8i+7 : 8i] (R67). -/
def byteLane (v : Word) (i : Nat) : Byte := v.extractLsb' (8 * i) 8

/-- The word {B3, B2, B1, B0} of four bytes (R67). -/
def wordOfBytes (b0 b1 b2 b3 : Byte) : Word := (b3 ++ b2 ++ b1 ++ b0 : BitVec 32)

/-- The pre-flight check of DITHER and PACK: the declared dimensions are 250 and 124 (R157, R185). -/
def State.dimensionsOk (s : State) : Bool :=
  decide (s.rasterW.toNat = Config.rasterWidth ∧ s.rasterH.toNat = Config.rasterHeight)

/-- The operand n = zext(FE_PAYLOAD_LEN[7:0]) (R95). -/
def State.payloadLen (s : State) : Nat := s.fePayloadLen.toNat

/-- The pre-flight check of ENCODE_FRAME fails when n + 2 > 255 (R202). -/
def State.payloadTooLarge (s : State) : Bool := decide (s.payloadLen + 2 > 255)

/-- SRC[0..30999], or the first pixel number not written (R94, R42). -/
def State.srcOperand (s : State) : Except Nat (List Rgb) := s.src.readEach (List.range Config.pixels)

/-- CODE[0..30999], or the first pixel number not written (R94, R42). PACK reads CODE[row·250 + col] row by row, so in
rising order (R185). -/
def State.codeOperand (s : State) : Except Nat (List Code) := s.code.readEach (List.range Config.pixels)

/-- FE_PAYLOAD[0..n−1], or the first byte number not written (R94, R42). -/
def State.payloadOperand (s : State) : Except Nat (List Byte) :=
  s.fePayload.readEach (List.range s.payloadLen)

end Sys2Proof.Machine
end

