-- ==== Sys2Proof/Machine/Quantizer.lean ====
section
/-! DEFINITION. The Quantizer and QUANTIZE (spec/41_quantizer.md). -/

namespace Sys2Proof.Machine

/-- A triple of integers of any sign, one for each channel (R133). -/
structure Triple where
  r : Int
  g : Int
  b : Int
deriving DecidableEq, Repr

/-- PALETTE(colour) (R8). -/
def paletteRgb (p : Palette) : Colour → Rgb
  | .white => p.white
  | .black => p.black
  | .red => p.red
  | .yellow => p.yellow

/-- CodeOf (R130). -/
def codeOf : Colour → Code
  | .black => 0
  | .white => 1
  | .yellow => 2
  | .red => 3

/-- ColourOf, the inverse of CodeOf (R130). -/
def colourOf (c : Code) : Colour :=
  match c.toNat with
  | 0 => .black
  | 1 => .white
  | 2 => .yellow
  | _ => .red

/-- The channels of a pixel, zero-extended (R95). -/
def pixelTriple (c : Rgb) : Triple := { r := c.r.toNat, g := c.g.toNat, b := c.b.toNat }

/-- The exact squared distance of v / s to a colour, scaled by s² (R133). -/
def dist2 (pal : Palette) (v : Triple) (s : Int) (c : Colour) : Int :=
  let p := pixelTriple (paletteRgb pal c)
  (v.r - s * p.r) ^ 2 + (v.g - s * p.g) ^ 2 + (v.b - s * p.b) ^ 2

/-- The tie-break order after its first member WHITE: BLACK, RED, YELLOW (R132). -/
def laterColours : List Colour := [.black, .red, .yellow]

/-- QuantizeS: the first colour of least distance in the order WHITE, BLACK, RED, YELLOW; only a strictly smaller
distance displaces an earlier colour (R132, R133). -/
def quantizeS (pal : Palette) (v : Triple) (s : Int) : Colour :=
  laterColours.foldl (fun best c => if dist2 pal v s c < dist2 pal v s best then c else best) .white

/-- Quantize8 = QuantizeS at scale 1 on an 8-bit pixel (R134). -/
def quantize8 (pal : Palette) (c : Rgb) : Colour := quantizeS pal (pixelTriple c) 1

/-- QUANTIZE (R137). -/
def execQuantize (s : State) : Result :=
  .next { s with qCode := codeOf (quantize8 s.palette s.qRgb) }.complete

end Sys2Proof.Machine
end

