-- ==== Sys2Proof/Machine/Bus.lean ====
section
/-! DEFINITION. The host port: the address map (spec/20_memory.md R60 to R63), reads and writes of the registers
(spec/10_state.md R22 to R34) and of the RAM windows (R65 to R68), and what is rejected while BUSY (R70, R71). -/

namespace Sys2Proof.Machine

/-- The registers in offset order (spec/10_state.md §2). -/
def registers : List Reg :=
  [.id, .cmd, .status, .intEn, .config, .rasterW, .rasterH, .qRgb, .qCode, .feCmdId, .fePayloadLen, .feFrameLen,
    .palWhite, .palBlack, .palRed, .palYellow]

/-- The byte offset of a register (spec/10_state.md §2). -/
def regOffset : Reg → Nat
  | .id => 0x00
  | .cmd => 0x04
  | .status => 0x08
  | .intEn => 0x0C
  | .config => 0x10
  | .rasterW => 0x14
  | .rasterH => 0x18
  | .qRgb => 0x1C
  | .qCode => 0x20
  | .feCmdId => 0x24
  | .fePayloadLen => 0x28
  | .feFrameLen => 0x2C
  | .palWhite => 0x30
  | .palBlack => 0x34
  | .palRed => 0x38
  | .palYellow => 0x3C

/-- The windows in address order (R62). -/
def windows : List Window := [.src, .dst, .code, .pack, .fePayload, .feFrame]

/-- The first byte address of a window (R62). -/
def windowBase : Window → Nat
  | .src => 0x20000
  | .dst => 0x40000
  | .code => 0x60000
  | .pack => 0x80000
  | .fePayload => 0x82000
  | .feFrame => 0x83000

/-- The address of a register (R97). -/
def regAddress (r : Reg) : Addr := BitVec.ofNat 20 (regOffset r)

/-- The address base + 4·k of element or word k of a window (R62, R97). -/
def windowAddress (w : Window) (k : Nat) : Addr := BitVec.ofNat 20 (windowBase w + 4 * k)

/-- What a bus address names (R61 to R63). -/
inductive Target where
  | misaligned
  | unmapped
  | register (r : Reg)
  | element (w : Window) (k : Nat)
deriving DecidableEq, Repr

/-- The address map; alignment is checked before any other decoding (R61, R62, R63). -/
def decodeAddress (a : Addr) : Target :=
  if a.toNat % 4 ≠ 0 then .misaligned
  else
    match registers[a.toNat / 4]? with
    | some r => .register r
    | none =>
      match windows.find? (fun w => decide (windowBase w ≤ a.toNat ∧ a.toNat < windowBase w + 4 * w.words)) with
      | some w => .element w ((a.toNat - windowBase w) / 4)
      | none => .unmapped

/-- The number CONFIG.WEST_EDGE holds (R26). -/
def westEdgeBits : WestEdge → BitVec 2
  | .skip => 0
  | .clamp => 1
  | .wrap => 2

/-- CONFIG.WEST_EDGE after a write of `v`: a write whose bits [1:0] equal 3 leaves the field unchanged (R26). -/
def westEdgeWritten (old : WestEdge) (v : Word) : WestEdge :=
  match (v.extractLsb' 0 2).toNat with
  | 0 => .skip
  | 1 => .clamp
  | 2 => .wrap
  | _ => old

/-- The word a register reads as (R22 to R34); reserved bits read 0, CMD reads 0 (R23), and no read has a side effect
(R64). -/
def readReg (r : Reg) (s : State) : Word :=
  match r with
  | .id => Config.idValue
  | .cmd => 0
  | .status => s.status.toWord
  | .intEn => s.intEn.toWord
  | .config => (westEdgeBits s.westEdge).setWidth 32
  | .rasterW => s.rasterW.setWidth 32
  | .rasterH => s.rasterH.setWidth 32
  | .qRgb => pixelToWord s.qRgb
  | .qCode => s.qCode.setWidth 32
  | .feCmdId => s.feCmdId.setWidth 32
  | .fePayloadLen => s.fePayloadLen.setWidth 32
  | .feFrameLen => s.feFrameLen.setWidth 32
  | .palWhite => pixelToWord s.palette.white
  | .palBlack => pixelToWord s.palette.black
  | .palRed => pixelToWord s.palette.red
  | .palYellow => pixelToWord s.palette.yellow

/-- The registers whose write is rejected while BUSY (R71, R111). -/
def frozenWhileBusy : Reg → Bool
  | .cmd | .config | .rasterW | .rasterH | .qRgb | .feCmdId | .fePayloadLen => true
  | .id | .status | .intEn | .qCode | .feFrameLen | .palWhite | .palBlack | .palRed | .palYellow => false

/-- An accepted write of `v` to a register updates only its defined writable fields; a write to a read-only register
does nothing (R22 to R34, R64). A write to CMD submits a command (R110). -/
def writeReg (r : Reg) (v : Word) (s : State) : State :=
  match r with
  | .cmd => s.accept v
  | .status => s.acknowledge v
  | .intEn => { s with intEn := IntEn.ofWord v }
  | .config => { s with westEdge := westEdgeWritten s.westEdge v }
  | .rasterW => { s with rasterW := v.extractLsb' 0 16 }
  | .rasterH => { s with rasterH := v.extractLsb' 0 16 }
  | .qRgb => { s with qRgb := pixelOfWord v }
  | .feCmdId => { s with feCmdId := v.extractLsb' 0 8 }
  | .fePayloadLen => { s with fePayloadLen := v.extractLsb' 0 8 }
  | .id | .qCode | .feFrameLen | .palWhite | .palBlack | .palRed | .palYellow => s

/-- One element of a RAM for a host read; unwritten is a fault (R42). -/
def readElement {α : Type} (w : Window) (m : Memory α) (i : Nat) : Except Fault α :=
  match m.read i with
  | some v => .ok v
  | none => .error (.unwrittenRead w i)

/-- Byte i of a byte window of `size` bytes; a lane past the end stands for no byte and reads 0 (R67). -/
def readLane (w : Window) (size : Nat) (m : Memory Byte) (i : Nat) : Except Fault Byte :=
  if i < size then readElement w m i else .ok 0

/-- Word j of a byte window, little-endian in its lanes (R67). -/
def readByteWord (w : Window) (size : Nat) (m : Memory Byte) (j : Nat) : Except Fault Word := do
  let b0 ← readLane w size m (4 * j)
  let b1 ← readLane w size m (4 * j + 1)
  let b2 ← readLane w size m (4 * j + 2)
  let b3 ← readLane w size m (4 * j + 3)
  return wordOfBytes b0 b1 b2 b3

/-- The word at element or word k of a window (R65, R66, R67). -/
def readWindow (w : Window) (k : Nat) (s : State) : Except Fault Word :=
  match w with
  | .src => (readElement w s.src k).map pixelToWord
  | .dst => (readElement w s.dst k).map pixelToWord
  | .code => (readElement w s.code k).map codeToWord
  | .pack => readByteWord w Config.packedBytes s.pack k
  | .fePayload => readByteWord w Config.payloadBytes s.fePayload k
  | .feFrame => readByteWord w Config.frameBytes s.feFrame k

/-- Word j of a byte window written: its four bytes (R67). -/
def writeByteWord (m : Memory Byte) (j : Nat) (v : Word) : Memory Byte :=
  (((m.write (4 * j) (byteLane v 0)).write (4 * j + 1) (byteLane v 1)).write (4 * j + 2) (byteLane v 2)).write
    (4 * j + 3) (byteLane v 3)

/-- An accepted write of `v` to element or word k of a window (R65, R66, R67); a read-only window ignores it (R68). -/
def writeWindow (w : Window) (k : Nat) (v : Word) (s : State) : State :=
  match w with
  | .src => { s with src := s.src.write k (pixelOfWord v) }
  | .code => { s with code := s.code.write k (codeOfWord v) }
  | .fePayload => { s with fePayload := writeByteWord s.fePayload k v }
  | .dst | .pack | .feFrame => s

/-- MemRead(addr, 4) (R60): rejected when misaligned, unmapped, or in a RAM window while BUSY (R61, R63, R70); register
reads are accepted at any time (R71). -/
def busRead (a : Addr) (s : State) : Result :=
  match decodeAddress a with
  | .misaligned | .unmapped => .next s.rejectRead
  | .register r => .next (s.returnWord (readReg r s))
  | .element w k =>
    if s.status.busy then .next s.rejectRead
    else
      match readWindow w k s with
      | .ok v => .next (s.returnWord v)
      | .error f => .fault f

/-- MemWrite(addr, 4, v) (R60): rejected when misaligned, unmapped, in a RAM window while BUSY, or to a register that is
frozen while BUSY (R61, R63, R70, R71). -/
def busWrite (a : Addr) (v : Word) (s : State) : State :=
  match decodeAddress a with
  | .misaligned | .unmapped => s.rejectWrite
  | .register r =>
    if s.status.busy && frozenWhileBusy r then s.rejectWrite else (writeReg r v s).returnNothing
  | .element w k => if s.status.busy then s.rejectWrite else (writeWindow w k v s).returnNothing

/-- One turn of the loop POLL: `RD STATUS`, and the host leaves the loop, going on with `rest`, when bit 0 of the returned
word is 0 (R99). What a turn inside the loop reads the spec leaves open: "any value with BUSY = 1"
(spec/93_implementation_defined.md U5). DESIGN CHOICE: the current STATUS word, as R71 has a read of STATUS answer; unsafe,
log entry 14. -/
def pollStatus (rest : List HostAction) (s : State) : State :=
  let v := readReg .status s
  if v.getLsbD 0 then s.returnWord v else { s.returnWord v with hostProg := rest }

/-- The host takes its turn: one bus transaction (R20, R60), or it does nothing when it has nothing to do (R236). -/
def hostStep (s : State) : Result :=
  match s.hostProg with
  | [] => .next s
  | .read a :: rest => busRead a { s with hostProg := rest }
  | .write a v :: rest => .next (busWrite a v { s with hostProg := rest })
  | .poll :: rest => .next (pollStatus rest s)
  | .waitIrq :: rest => .next (if s.irq then { s with hostProg := rest } else s)

/-- `rst` at 1 (R251): every register takes its reset value, the running command is abandoned with none of its writes,
the written marks are cleared (R252), and the host's next `lost` actions are discarded. PALETTE is a constant of the
build and stays (R34). -/
def resetBlock (lost : Nat) (s : State) : State :=
  { State.resetWith s.palette with hostProg := s.hostProg.drop lost, turns := s.turns }

end Sys2Proof.Machine
end

