-- ==== Sys2Proof/Machine/Ditherer.lean ====
section
/-! DEFINITION. The Ditherer and DITHER (spec/42_ditherer.md). The scan computes in ℤ (R150); R163 says that no value
leaves the 32-bit range of ACC. -/

namespace Sys2Proof.Machine

/-- The triple of zeros. -/
def Triple.zero : Triple := { r := 0, g := 0, b := 0 }

/-- Channel-wise sum. -/
def Triple.add (a b : Triple) : Triple := { r := a.r + b.r, g := a.g + b.g, b := a.b + b.b }

/-- Channel-wise difference. -/
def Triple.sub (a b : Triple) : Triple := { r := a.r - b.r, g := a.g - b.g, b := a.b - b.b }

/-- A pixel as Q.8 values: every channel c enters as c << 8 (R150). -/
def pixelQ8 (c : Rgb) : Triple :=
  { r := c.r.toNat * Config.q8Scale, g := c.g.toNat * Config.q8Scale, b := c.b.toNat * Config.q8Scale }

/-- Contrib(e, w) = (e·w + 8) >>> 4 (R151). -/
def contrib (e w : Int) : Int := (e * w + 8) >>> (4 : Nat)

/-- The share of an error triple for weight w/16 (R151, R152). -/
def share (e : Triple) (w : Int) : Triple :=
  { r := contrib e.r w, g := contrib e.g w, b := contrib e.b w }

/-- ToByte(A) = clip(A, 0, 255·256) >>> 8 (R155). -/
def toByte (a : Int) : Byte := BitVec.ofInt 8 ((min (max a 0) (255 * 256)) >>> (8 : Nat))

/-- The output pixel of a Q.8 triple (R155). -/
def Triple.toPixel (a : Triple) : Rgb := { r := toByte a.r, g := toByte a.g, b := toByte a.b }

/-- An ACC element as its 32-bit registers hold it (R46, R150). -/
def Triple.toAccCell (a : Triple) : AccCell :=
  { r := BitVec.ofInt 32 a.r, g := BitVec.ofInt 32 a.g, b := BitVec.ofInt 32 a.b }

/-- ACC while DITHER runs: one triple of integers for each pixel number. -/
abbrev AccArray := Array Triple

/-- ACC[p]; every index the scan forms is in range (R159), so the fallback is never read. -/
def AccArray.at (acc : AccArray) (p : Nat) : Triple := acc.getD p Triple.zero

/-- Diffuse: add the share of e for weight w to ACC[p] (R152). -/
def diffuse (acc : AccArray) (p : Nat) (e : Triple) (w : Int) : AccArray :=
  acc.modify p (fun a => a.add (share e w))

/-- SW(x, y, e, pol): the south-west share, by the west-edge policy at x = 0 (R153). -/
def diffuseSouthWest (pol : WestEdge) (acc : AccArray) (x y : Nat) (e : Triple) : AccArray :=
  if 1 ≤ x then diffuse acc (pixelIndex (x - 1) (y + 1)) e 3
  else
    match pol with
    | .skip => acc
    | .clamp => diffuse acc (pixelIndex 0 (y + 1)) e 3
    | .wrap => diffuse acc (pixelIndex (Config.rasterWidth - 1) (y + 1)) e 3

/-- The scan's work on the processed pixel (x, y): quantise, replace by the palette value, diffuse the error to the
east, south-west, south and south-east (R156, R157 part 2). -/
def ditherPixel (pal : Palette) (pol : WestEdge) (acc : AccArray) (xy : Nat × Nat) : AccArray :=
  let x := xy.1
  let y := xy.2
  let old := acc.at (pixelIndex x y)
  let new := pixelQ8 (paletteRgb pal (quantizeS pal old Config.q8Scale))
  let e := old.sub new
  let acc := acc.setIfInBounds (pixelIndex x y) new
  let acc := diffuse acc (pixelIndex (x + 1) y) e 7
  let acc := diffuseSouthWest pol acc x y e
  let acc := diffuse acc (pixelIndex x (y + 1)) e 5
  diffuse acc (pixelIndex (x + 1) (y + 1)) e 1

/-- The processed pixels (x, y) in scan order: rows top to bottom, columns left to right, without the last row and the
last column (R154). -/
def scanOrder : List (Nat × Nat) :=
  (List.range (Config.rasterHeight - 1)).flatMap fun y =>
    (List.range (Config.rasterWidth - 1)).map fun x => (x, y)

/-- ACC as initialised from the source raster (R157 part 1). -/
def accInit (raster : List Rgb) : AccArray := (raster.map pixelQ8).toArray

/-- ACC after the whole error-diffusion scan (R157 part 2). -/
def accFinal (pal : Palette) (pol : WestEdge) (raster : List Rgb) : AccArray :=
  scanOrder.foldl (ditherPixel pal pol) (accInit raster)

/-- The writes of a DITHER that reads the raster `raster` (R157 part 3): DST, CODE and the hidden ACC. -/
def ditherRaster (raster : List Rgb) (s : State) : State :=
  let out := (accFinal s.palette s.westEdge raster).toList
  { s with
    dst := Memory.ofList (out.map Triple.toPixel)
    code := Memory.ofList (out.map fun a => codeOf (quantize8 s.palette a.toPixel))
    acc := Memory.ofList (out.map Triple.toAccCell) }

/-- DITHER (R157). -/
def execDither (s : State) : Result :=
  if s.dimensionsOk then
    match s.srcOperand with
    | .ok raster => .next (ditherRaster raster s).complete
    | .error p => .fault (.unwrittenRead .src p)
  else .next (s.raiseError .dimensionMismatch)

end Sys2Proof.Machine
end

