-- ==== Sys2Proof/Machine/FrameEncoder.lean ====
section
/-! DEFINITION. The FrameEncoder and ENCODE_FRAME (spec/44_frame_encoder.md). -/

namespace Sys2Proof.Machine

/-- The frame [0x5C, n + 2, cmd] + payload + [0x7A] (R200, R201); no escaping (R205). -/
def frameOf (cmd : Byte) (payload : List Byte) : List Byte :=
  [Config.frameStart, BitVec.ofNat 8 (payload.length + 2), cmd] ++ payload ++ [Config.frameEnd]

/-- The frame followed by zero bytes up to FE_FRAME[259] (R204). -/
def frameBuffer (cmd : Byte) (payload : List Byte) : List Byte :=
  frameOf cmd payload ++ List.replicate (Config.frameBytes - (frameOf cmd payload).length) 0

/-- ENCODE_FRAME (R203). -/
def execEncodeFrame (s : State) : Result :=
  if s.payloadTooLarge then .next ({ s with feFrameLen := 0 }.raiseError .payloadTooLarge)
  else
    match s.payloadOperand with
    | .ok payload =>
      .next { s with
        feFrame := Memory.ofList (frameBuffer s.feCmdId payload)
        feFrameLen := BitVec.ofNat 9 (s.payloadLen + 4) }.complete
    | .error k => .fault (.unwrittenRead .fePayload k)

end Sys2Proof.Machine
end

