-- ==== Sys2Proof/Machine/Packer.lean ====
section
/-! DEFINITION. The BufferPacker and PACK (spec/43_packer.md). -/

namespace Sys2Proof.Machine

/-- index(row, col) = row + 124·col: column-major (R183). -/
def packIndex (row col : Nat) : Nat := row + Config.rasterHeight * col

/-- byte_index = index div 4 (R184). -/
def packByteIndex (index : Nat) : Nat := index / 4

/-- bit_offset = 6 − 2·(index mod 4): pixel 0 of a group of four occupies bits 7-6 (R184). -/
def packBitOffset (index : Nat) : Nat := 6 - 2 * (index % 4)

/-- Replace the 2-bit field at `off` of a byte: (b & ~(0b11 << off) & 0xFF) | (code << off) (R182). -/
def putField (off : Nat) (code : Code) (b : Byte) : Byte :=
  (b &&& ~~~(3#8 <<< off)) ||| (code.setWidth 8 <<< off)

/-- PutCode(index, code), a read-modify-write of one byte (R182). -/
def putCode (buf : Array Byte) (index : Nat) (code : Code) : Array Byte :=
  buf.modify (packByteIndex index) (putField (packBitOffset index) code)

/-- The codes of one raster row, CODE[row·250 + col] for col in 0..249, put in their places (R180, R185). -/
def packRow (codes : Array Code) (buf : Array Byte) (row : Nat) : Array Byte :=
  (List.range Config.rasterWidth).foldl
    (fun buf col => putCode buf (packIndex row col) (codes.getD (pixelIndex col row) 0)) buf

/-- The packed buffer of a code raster: zero initialisation (R181), then every row (R185). -/
def packRaster (codes : List Code) : Array Byte :=
  (List.range Config.rasterHeight).foldl (packRow codes.toArray) (Array.replicate Config.packedBytes 0)

/-- PACK (R185). -/
def execPack (s : State) : Result :=
  if s.dimensionsOk then
    match s.codeOperand with
    | .ok codes => .next { s with pack := Memory.ofList (packRaster codes).toList }.complete
    | .error p => .fault (.unwrittenRead .code p)
  else .next (s.raiseError .dimensionMismatch)

end Sys2Proof.Machine
end

