-- ==== Sys2Proof/Machine/Protocol.lean ====
section
/-! DEFINITION. NOP and the illegal command word (spec/40_command_protocol.md R118, R119). -/

namespace Sys2Proof.Machine

/-- NOP (R118): completes, reads nothing and writes nothing but STATUS. -/
def execNop (s : State) : Result := .next s.complete

/-- An illegal command word completes with ILLEGAL_COMMAND (R119). -/
def illegalCommand (s : State) : State := s.raiseError .illegalCommand

end Sys2Proof.Machine
end

