-- ==== Sys2Proof/Machine/Dispatch.lean ====
section
/-! DEFINITION. One arm per command: the writes of its completion step (spec/40_command_protocol.md R112). -/

namespace Sys2Proof.Machine

-- The completion step of a decoded command (R112): one direct call of its meaning per constructor.
def exec (i : Instr) (s : State) : Host.Outcome State Fault Refusal :=
  match i with
  | .nop => Sys2Proof.Machine.execNop s
  | .quantize => Sys2Proof.Machine.execQuantize s
  | .dither => Sys2Proof.Machine.execDither s
  | .pack => Sys2Proof.Machine.execPack s
  | .encodeFrame => Sys2Proof.Machine.execEncodeFrame s

end Sys2Proof.Machine
end

