-- ==== Sys2Proof/Machine/Engine.lean ====
section
/-! DEFINITION. The engine's completion step and whose turn it is (R20, R112, R115). -/

namespace Sys2Proof.Machine

/-- The completion step: decode CUR_CMD and perform the decoded command's rule, or end with ILLEGAL_COMMAND; while
BUSY = 0 the engine has no step to take (R112, R119, R236). -/
def engineStep (s : State) : Result :=
  if s.status.busy then
    match decode s.curCmd with
    | .ok i => exec i s
    | .error _ => .next (illegalCommand s)
  else .next s

/-- Whose turn it is: what `turns` says, and when it says nothing a BUSY engine moves first, so that it always completes
(R115); log entry 4. -/
def State.nextTurn (s : State) : Turn :=
  match s.turns with
  | t :: _ => t
  | [] => if s.status.busy then .engine else .host

/-- The state with the current turn taken off `turns`. -/
def State.popTurn (s : State) : State := { s with turns := s.turns.tail }

/-- One agent moves (R20), or `rst` is 1 (R251). -/
def takeTurn (t : Turn) (s : State) : Result :=
  match t with
  | .host => hostStep s
  | .engine => engineStep s
  | .reset lost => .next (resetBlock lost s)

/-- The machine refuses a PALETTE with two equal triples (R131). -/
def stepTurn (s : State) : Result :=
  if s.palette.wellFormed then takeTurn s.nextTurn s.popTurn else .refused .equalPaletteTriples

/-- The command word `w` just accepted (R110) and the engine next to move. -/
def submitWord (w : Word) (s : State) : State :=
  { s.accept w with turns := .engine :: s.turns }

end Sys2Proof.Machine
end

