-- ==== Sys2Proof/Machine/Step.lean ====
section
/-! DEFINITION. One step of the block, and how a command word is put where the next step runs it. -/

namespace Sys2Proof.Machine

/-- One step: the agent whose turn it is moves (R20, R72, R112). -/
def step (s : State) : Host.Outcome State Fault Refusal := stepTurn s

/-- The block fetches nothing (R77): a command comes to run when a host write to CMD is accepted and the engine then takes
its completion step. This is the state right after that accept, the engine moving next (log entry 3). Bits of `w` above
`nbits` are 0. -/
def State.withFetchWord (s : State) (nbits w : Nat) : State :=
  submitWord (BitVec.ofNat 32 (w % 2 ^ nbits)) s

end Sys2Proof.Machine
end

