-- ==== Sys2Proof/Machine/HostProgram.lean ====
section
/-! DEFINITION. The host-program notation of spec/30_encoding.md R97 to R99 as a list of host actions, and the host
procedures of spec/60_exceptions.md R237 and R239 as functions on byte lists. The block performs none of this. -/

namespace Sys2Proof.Machine

/-- The byte address a place stands for (R97). -/
def placeAddress : Place → Addr
  | .reg r => regAddress r
  | .elem w k => windowAddress w k
  | .literal a => a

/-- What a line stands for (R97, R98, R99). The value of `rdGives` and `expect` is a claim about the rules, no part of
the transaction: `claims` collects it. -/
def expandLine : HostLine → List HostAction
  | .wr p v => [.write (placeAddress p) v]
  | .rd p | .rdGives p _ => [.read (placeAddress p)]
  | .comment _ => []
  | .poll => [.poll]
  | .run i => [.write (regAddress .cmd) (encode i), .poll]
  | .fill w first count v => (List.range count).map fun i => .write (windowAddress w (first + i)) v
  | .clear => [.write (regAddress .status) 0x0000000E]
  | .expect r _ => [.read (regAddress r)]

/-- The actions of a host program, in order (R97). -/
def expandProgram (p : List HostLine) : List HostAction := p.flatMap expandLine

/-- The words a host program claims its reads return, in order (R97, R99). -/
def claims (p : List HostLine) : List Word :=
  p.filterMap fun
    | .rdGives _ v | .expect _ v => some v
    | .wr _ _ | .rd _ | .comment _ | .poll | .run _ | .fill _ _ _ _ | .clear => none

/-- The state in which the host is about to run a program (R97). -/
def State.withHostProgram (s : State) (p : List HostLine) : State :=
  { s with hostProg := expandProgram p }

/-- The payloads of the Packetizer from chunk number s on, the buffer cut into chunks of at most 64 bytes and each led by
its sequence byte s mod 256 (R237 steps 2 and 3); `fuel` bounds the number of chunks. -/
def packetPayloads : (fuel s : Nat) → List Byte → List (List Byte)
  | 0, _, _ => []
  | fuel + 1, s, buf =>
    if buf.isEmpty then []
    else (BitVec.ofNat 8 s :: buf.take Config.packetBytes) ::
      packetPayloads fuel (s + 1) (buf.drop Config.packetBytes)

/-- The payloads a host sends for a packed buffer (R237). -/
def packetize (buf : List Byte) : List (List Byte) := packetPayloads buf.length 0 buf

/-- The host's configuration payload, none where it rejects with InvalidCredentialLength (R239). -/
def configPayload (ssid password : List Byte) : Option (List Byte) :=
  if ssid.length > 32 || password.length > 64 then none
  else some ([BitVec.ofNat 8 ssid.length, BitVec.ofNat 8 password.length] ++ ssid ++ password)

end Sys2Proof.Machine
end

