-- ==== Sys2Proof/Safety.lean ====
section
/-! DEFINITION. What a legal state is and what a command needs in order to end: the terms claims are stated in. -/

namespace Sys2Proof.Machine

/-- Every element of a RAM below `size` has its written mark set (R42). -/
def Memory.writtenBelow {α : Type} (m : Memory α) (size : Nat) : Prop := ∀ i, i < size → (m.read i).isSome = true

/-- The RAM elements a command reads are all written (R42, R94, R254). -/
def State.operandsWritten (i : Instr) (s : State) : Prop :=
  match i with
  | .nop | .quantize => True
  | .dither => s.src.writtenBelow Config.pixels
  | .pack => s.code.writtenBelow Config.pixels
  | .encodeFrame => s.fePayload.writtenBelow s.payloadLen

/-- The command's own pre-flight check passes (R226). -/
def State.preflightOk (i : Instr) (s : State) : Prop :=
  match i with
  | .nop | .quantize => True
  | .dither | .pack => s.dimensionsOk = true
  | .encodeFrame => s.payloadTooLarge = false

/-- What holds in every reachable state. -/
structure State.Inv (s : State) : Prop where
  /-- The PALETTE is one the model accepts (R131). -/
  palette : s.palette.wellFormed = true
  /-- STATUS.ERR = 0 ⇒ STATUS.ERR_CODE = 0 (R24). -/
  noErrNoCode : s.status.err = false → s.status.errCode = .none
  /-- An error completion always records a code (R114, R221). -/
  errHasCode : s.status.err = true → s.status.errCode ≠ .none
  /-- STATUS.BUSY = 1 ⇒ STATUS.DONE = 0 ∧ STATUS.ERR = 0 (R24). -/
  busyIsClean : s.status.busy = true → s.status.done = false ∧ s.status.err = false
  /-- A command ends with DONE or with ERR, not both (R110, R113, R114). -/
  notBoth : ¬(s.status.done = true ∧ s.status.err = true)
  /-- FE_FRAME_LEN is 0 or one of 4 to 257 (R33). -/
  frameLen : s.feFrameLen.toNat = 0 ∨ 4 ≤ s.feFrameLen.toNat ∧ s.feFrameLen.toNat ≤ 257
  /-- Every RAM is in canonical form and holds no element it does not have (R36 to R41, R46). -/
  src : s.src.wf Config.pixels = true
  dst : s.dst.wf Config.pixels = true
  code : s.code.wf Config.pixels = true
  pack : s.pack.wf Config.packedBytes = true
  fePayload : s.fePayload.wf Config.payloadBytes = true
  feFrame : s.feFrame.wf Config.frameBytes = true
  acc : s.acc.wf Config.pixels = true

/-- When FE_FRAME_LEN is L ≠ 0, FE_FRAME holds a frame of L bytes, every one of them written: the start byte, the length
field L − 2, the command and payload bytes and, at its end, the end byte; the bytes after it up to 259 are 0 (R200, R201,
R204, R260). -/
def State.frameBufferHoldsFrame (s : State) : Prop :=
  s.feFrameLen ≠ 0 →
    4 ≤ s.feFrameLen.toNat ∧ s.feFrameLen.toNat ≤ 257 ∧
    s.feFrame.read 0 = some Config.frameStart ∧
    s.feFrame.read 1 = some (BitVec.ofNat 8 (s.feFrameLen.toNat - 2)) ∧
    s.feFrame.read (s.feFrameLen.toNat - 1) = some Config.frameEnd ∧
    s.feFrame.writtenBelow s.feFrameLen.toNat ∧
    ∀ k, s.feFrameLen.toNat ≤ k → k < Config.frameBytes → s.feFrame.read k = some 0

/-- A run of k steps from s that meets no fault and no refusal. -/
def State.runsFor (s : State) (k : Nat) : Prop := ∃ t, Host.Core.run Sys2Proof.core k s = .next t

end Sys2Proof.Machine
end

