-- ==== Sys2Proof/Certificates/Slice0/Obligations.lean ====
section
/-! DEFINITION. The statements for the provers. Each docstring says which rule of spec/ it formalises. A frame is written
as an equation `t = { s with f := t.f, … }`: every field not named is unchanged, and a memory that is not named is
unchanged as a whole, so every element reads as before and every written mark is as before. -/

open Sys2Proof Sys2Proof.Machine

namespace Sys2Proof.Claims

/-- The place of a colour in the tie-break order WHITE, BLACK, RED, YELLOW (R132). -/
def orderRank : Colour → Nat
  | .white => 0
  | .black => 1
  | .red => 2
  | .yellow => 3

/-- c is the first colour of least distance in the tie-break order (R132). -/
def IsFirstNearest (distance : Colour → Int) (c : Colour) : Prop :=
  ∀ c', distance c ≤ distance c' ∧ (orderRank c' < orderRank c → distance c < distance c')

/-- Squared Euclidean distance of two pixels in RGB space (R134). -/
def rgbDistance (p q : Rgb) : Int :=
  ((p.r.toNat : Int) - q.r.toNat) ^ 2 + ((p.g.toNat : Int) - q.g.toNat) ^ 2 + ((p.b.toNat : Int) - q.b.toNat) ^ 2

/-- The key L(c) of R139 for PALETTE_DEFAULT. -/
def defaultKey (v : Triple) (s : Int) : Colour → Int
  | .white => 765 * s - 2 * (v.r + v.g + v.b)
  | .black => 0
  | .red => 255 * s - 2 * v.r
  | .yellow => 510 * s - 2 * (v.r + v.g)

/-- The byte addresses the map of R62 marks unmapped. -/
def unmapped (n : Nat) : Prop :=
  (0x40 ≤ n ∧ n ≤ 0x1FFFF) ∨ (0x3E460 ≤ n ∧ n ≤ 0x3FFFF) ∨ (0x5E460 ≤ n ∧ n ≤ 0x5FFFF) ∨
    (0x7E460 ≤ n ∧ n ≤ 0x7FFFF) ∨ (0x81E48 ≤ n ∧ n ≤ 0x81FFF) ∨ (0x82100 ≤ n ∧ n ≤ 0x82FFF) ∨
    (0x83104 ≤ n ∧ n ≤ 0xFFFFF)

/-- A pixel that the scan processes (R154). -/
def processed (x y : Nat) : Prop := x ≤ 248 ∧ y ≤ 122

/-- The shares that pixel (x, y) receives from its neighbours' errors, by policy (R152, R153, R161): 7 from the west, 3
from the north-east, 5 from the north, 1 from the north-west, and the share that the policy sends from column 0. -/
def received (pol : WestEdge) (e : Nat → Nat → Triple) (x y : Nat) : Triple :=
  let west := if 1 ≤ x then share (e (x - 1) y) 7 else Triple.zero
  let northEast := if 1 ≤ y then share (e (x + 1) (y - 1)) 3 else Triple.zero
  let north := if 1 ≤ y then share (e x (y - 1)) 5 else Triple.zero
  let northWest := if 1 ≤ x ∧ 1 ≤ y then share (e (x - 1) (y - 1)) 1 else Triple.zero
  let edge :=
    if (pol = .clamp ∧ x = 0 ∧ 1 ≤ y) ∨ (pol = .wrap ∧ x = 249 ∧ 1 ≤ y) then share (e 0 (y - 1)) 3 else Triple.zero
  ((((west.add northEast).add north).add northWest).add edge)

/-- Every channel of a triple lies strictly between −b and b. -/
def within (b : Int) (v : Triple) : Prop := (-b < v.r ∧ v.r < b) ∧ (-b < v.g ∧ v.g < b) ∧ (-b < v.b ∧ v.b < b)

/-- ACC after the first k processed pixels of a scan. -/
def accAfter (pal : Palette) (pol : WestEdge) (raster : List Rgb) (k : Nat) : AccArray :=
  (scanOrder.take k).foldl (ditherPixel pal pol) (accInit raster)

/-- The quantisation error that the scan computes for a pixel whose accumulator holds `old` (R156). -/
def errorOf (pal : Palette) (old : Triple) : Triple :=
  old.sub (pixelQ8 (paletteRgb pal (quantizeS pal old 256)))

/-- The state after a rejected read (R224). -/
def afterRejectedRead (s : State) : State :=
  { s with status := { s.status with accessErr := true }, busData := some 0 }

/-- t is s after a rejected write (R224); what the port's read data is after a write is not claimed. -/
def isRejectedWriteOf (s t : State) : Prop :=
  t = { s with status := { s.status with accessErr := true }, busData := t.busData }

/-- t is s after a write that is accepted and does nothing (R64, R68). -/
def isIgnoredWriteOf (s t : State) : Prop := t = { s with busData := t.busData }

/-- Two states agree on everything that a command reads (R94). -/
def agreeOnOperands (i : Instr) (s₁ s₂ : State) : Prop :=
  match i with
  | .nop => True
  | .quantize => s₁.qRgb = s₂.qRgb ∧ s₁.palette = s₂.palette
  | .dither =>
    s₁.rasterW = s₂.rasterW ∧ s₁.rasterH = s₂.rasterH ∧ s₁.westEdge = s₂.westEdge ∧ s₁.palette = s₂.palette ∧
      ∀ p, p < 31000 → s₁.src.read p = s₂.src.read p
  | .pack =>
    s₁.rasterW = s₂.rasterW ∧ s₁.rasterH = s₂.rasterH ∧ ∀ p, p < 31000 → s₁.code.read p = s₂.code.read p
  | .encodeFrame =>
    s₁.fePayloadLen = s₂.fePayloadLen ∧ s₁.feCmdId = s₂.feCmdId ∧
      ∀ k, k < s₁.fePayloadLen.toNat → s₁.fePayload.read k = s₂.fePayload.read k

/-- Two states agree on everything that a successful command writes beside STATUS (R94) but for the values left in the
scratch ACC, which the spec does not fix (log entry 7). -/
def agreeOnResults (i : Instr) (t₁ t₂ : State) : Prop :=
  match i with
  | .nop => True
  | .quantize => t₁.qCode = t₂.qCode
  | .dither => t₁.dst = t₂.dst ∧ t₁.code = t₂.code
  | .pack => t₁.pack = t₂.pack
  | .encodeFrame => t₁.feFrame = t₂.feFrame ∧ t₁.feFrameLen = t₂.feFrameLen

/-- STATUS after a host write of v (R24): each flag whose bit of v is 1 is cleared, ERR_CODE with ERR. -/
def statusAfterWrite (st : Status) (v : Word) : Status where
  busy := st.busy
  done := if v.getLsbD 1 then false else st.done
  err := if v.getLsbD 2 then false else st.err
  errCode := if v.getLsbD 2 then .none else st.errCode
  accessErr := if v.getLsbD 3 then false else st.accessErr

/-- STATUS as an accept leaves it, but for ACCESS_ERR (R110). -/
def running (s : State) : Prop :=
  s.status.busy = true ∧ s.status.done = false ∧ s.status.err = false ∧ s.status.errCode = .none

end Sys2Proof.Claims

open Sys2Proof.Claims

/-! ### Decoding -/

/-- R91: a word selects a command only when all 32 bits equal the word in the table. -/
def Obligations.DecodeSelectsExactlyTheTableWords : Prop :=
  ∀ w : Word,
    (decode w = .ok .nop ↔ w = 0x00000000#32) ∧
    (decode w = .ok .quantize ↔ w = 0x00000001#32) ∧
    (decode w = .ok .dither ↔ w = 0x00000002#32) ∧
    (decode w = .ok .pack ↔ w = 0x00000003#32) ∧
    (decode w = .ok .encodeFrame ↔ w = 0x00000004#32)

/-- R92: the illegal words are those with OPC in 0x05 to 0xFF and those with RSVD ≠ 0, 2^32 − 5 in all. -/
def Obligations.IllegalWordsAreExactlyThoseOfTheRule : Prop :=
  (∀ w : Word, (∃ e, decode w = .error e) ↔
    5 ≤ (w.extractLsb' 0 8 : BitVec 8).toNat ∨ (w.extractLsb' 8 24 : BitVec 24) ≠ 0) ∧
  Nat.card { w : Word // ∃ e, decode w = .error e } = 2 ^ 32 - 5

/-- Decoding the encoding of a command gives it back, and a few words written out bit by bit from the table of R91 and the
illegal examples of R92 and R119 decode as they say. -/
def Obligations.WordsDecodeToTheirCommands : Prop :=
  (∀ i : Instr, i.wellFormed = true →
    decode (encode i) = .ok i ∧ decodeTableWord 32 (encode i).toNat = some i) ∧
  decode 0b00000000000000000000000000000001#32 = .ok .quantize ∧
  decode 0b00000000000000000000000000000010#32 = .ok .dither ∧
  decode 0b00000000000000000000000000000100#32 = .ok .encodeFrame ∧
  decode 0b00000000000000000000000000000101#32 = .error (.reservedOpcode 5) ∧
  decode 0b00000000000000000000000100000010#32 = .error (.reservedBits 1)

/-! ### The step -/

/-- R20: one step is one move of the agent whose turn it is: one action of the host, one completion step of the engine, or
`rst` at 1, which discards the host's next `lost` actions and no others (R251). Whose turn it is is plain data of the
model's own (log entries 4 and 6). A PALETTE with two equal triples is refused (R131). -/
def Obligations.StepIsOneMoveOfOneAgent : Prop :=
  (∀ s : State, s.palette.wellFormed = true →
    step s =
      match s.nextTurn with
      | .host => hostStep { s with turns := s.turns.tail }
      | .engine => engineStep { s with turns := s.turns.tail }
      | .reset lost => .next (resetBlock lost { s with turns := s.turns.tail })) ∧
  (∀ (s : State) (lost : Nat),
    (resetBlock lost s).hostProg = s.hostProg.drop lost ∧ (resetBlock lost s).turns = s.turns) ∧
  (∀ (s : State) (c c' : Colour), c ≠ c' → paletteRgb s.palette c = paletteRgb s.palette c' →
    step s = .refused .equalPaletteTriples)

/-- R112: while BUSY the engine's step decodes CUR_CMD and performs the decoded command. A step takes the current turn off
`turns` (the model's own field, log entry 4) and adds nothing else. A word placed by `withFetchWord` is the accept of
R110, and the next step is its completion step (log entry 3). -/
def Obligations.StepRunsTheDecodedCommand : Prop :=
  (∀ (s : State) (i : Instr), s.palette.wellFormed = true → s.nextTurn = .engine → s.status.busy = true →
    decode s.curCmd = .ok i →
      step s = exec i { s with turns := s.turns.tail }) ∧
  (∀ (s : State) (i : Instr), s.palette.wellFormed = true →
    step (s.withFetchWord 32 (encode i).toNat) =
      exec i { s with
        curCmd := encode i
        status := { busy := true, done := false, err := false, errCode := .none, accessErr := s.status.accessErr } })

/-- R119: an illegal word completes with ILLEGAL_COMMAND and no other effect, also one whose OPC field is a defined opcode
and whose RSVD field is not 0; and from STATUS = 0 the word 0x00000005 leaves STATUS = 0x00000014. -/
def Obligations.IllegalWordEndsWithIllegalCommand : Prop :=
  (∀ s : State, s.status.busy = true →
    (5 ≤ (s.curCmd.extractLsb' 0 8 : BitVec 8).toNat ∨ (s.curCmd.extractLsb' 8 24 : BitVec 24) ≠ 0) →
      engineStep s = .next { s with
        status := { s.status with busy := false, err := true, errCode := .illegalCommand } }) ∧
  (∀ s : State, s.status.toWord = 0 →
    ∃ t, engineStep (s.accept 0x00000005) = .next t ∧ t.status.toWord = 0x00000014)

/-- R20 and R236: with nothing to do, a turn of the host or of the engine changes no register and no memory; log entry 4
for `turns`. -/
def Obligations.IdleBlockDoesNothing : Prop :=
  ∀ s : State, s.palette.wellFormed = true →
    (s.nextTurn = .host → s.hostProg = [] → step s = .next { s with turns := s.turns.tail }) ∧
    (s.nextTurn = .engine → s.status.busy = false → step s = .next { s with turns := s.turns.tail })

/-- R115: a BUSY engine whose turn it is takes its completion step, and it ends the command when the operands are
written; log entry 4 for the empty schedule. -/
def Obligations.BusyEngineCompletes : Prop :=
  ∀ s : State, s.palette.wellFormed = true → s.turns = [] → s.status.busy = true →
    (∀ i, decode s.curCmd = .ok i → s.preflightOk i → s.operandsWritten i) →
      ∃ t, step s = .next t ∧ t.status.busy = false ∧ (t.status.done = true ∨ t.status.err = true)

/-! ### Accept and the commands -/

/-- R110: a write to CMD while idle is accepted whatever the word is; ACCESS_ERR, every other register and every RAM are
unchanged, and irq is then held only by ACCESS_ERR. -/
def Obligations.IdleCmdWriteIsAccepted : Prop :=
  ∀ (s : State) (w : Word), s.status.busy = false →
    let t := busWrite 0x00004#20 w s
    t = { s with
      curCmd := w
      status := { busy := true, done := false, err := false, errCode := .none, accessErr := s.status.accessErr }
      busData := t.busData } ∧
    t.irq = (s.status.accessErr && s.intEn.accessErrIe)

/-- R111: a write to CMD while BUSY is rejected and changes nothing but ACCESS_ERR. -/
def Obligations.BusyCmdWriteIsRejected : Prop :=
  ∀ (s : State) (w : Word), s.status.busy = true → isRejectedWriteOf s (busWrite 0x00004#20 w s)

/-- R118: NOP completes; nothing but STATUS changes; its word is 0; from STATUS = 0 it leaves STATUS = 0x00000002. -/
def Obligations.NopOnlyCompletes : Prop :=
  (∀ s : State, exec .nop s = .next { s with status := { s.status with busy := false, done := true } }) ∧
  encode .nop = 0x00000000#32 ∧
  (∀ s : State, s.status.toWord = 0 →
    ∃ t, engineStep (s.accept 0x00000000) = .next t ∧ t.status.toWord = 0x00000002)

/-- R137: QUANTIZE completes with the code of the first nearest palette colour of Q_RGB in Q_CODE and changes nothing
else; the rule's corner cases and example, with its distances, under PALETTE_DEFAULT. -/
def Obligations.QuantizeGivesFirstNearestColour : Prop :=
  (∀ s : State, ∃ c : Colour,
    IsFirstNearest (fun c => rgbDistance s.qRgb (paletteRgb s.palette c)) c ∧
    exec .quantize s =
      .next { s with qCode := codeOf c, status := { s.status with busy := false, done := true } }) ∧
  encode .quantize = 0x00000001#32 ∧
  (let distance := fun c => rgbDistance ⟨128, 128, 128⟩ (paletteRgb Config.paletteDefault c)
   distance .white = 48387 ∧ distance .black = 49152 ∧ distance .red = 48897 ∧ distance .yellow = 48642) ∧
  (∀ s t : State, s.palette = Config.paletteDefault → exec .quantize s = .next t →
    (s.qRgb = ⟨255, 127, 128⟩ → t.qCode = 1) ∧ (s.qRgb = ⟨127, 128, 0⟩ → t.qCode = 0) ∧
    (s.qRgb = ⟨0, 0, 255⟩ → t.qCode = 0) ∧ (s.qRgb = ⟨128, 128, 128⟩ → t.qCode = 1))

/-- DITHER completes when the declared dimensions are 250 and 124 and SRC is written; it writes every element of DST, CODE
and ACC, each CODE is the code of its DST pixel, and nothing else but STATUS changes (R94, R157). -/
def Obligations.DitherCompletes : Prop :=
  ∀ s : State, s.rasterW = 250 → s.rasterH = 124 → (∀ p, p < 31000 → (s.src.read p).isSome = true) →
    ∃ t, exec .dither s = .next t ∧
      t = { s with
        status := { s.status with busy := false, done := true }
        dst := t.dst
        code := t.code
        acc := t.acc } ∧
      (∀ p, p < 31000 → ∃ c, t.dst.read p = some c ∧ t.code.read p = some (codeOf (quantize8 s.palette c))) ∧
      (∀ p, p < 31000 → (t.acc.read p).isSome = true) ∧
      (∀ p, 31000 ≤ p → t.dst.read p = none ∧ t.code.read p = none ∧ t.acc.read p = none)

/-- R186 and R185: PACK completes when the declared dimensions are 250 and 124 and CODE is written; byte 31·col + k holds
rows 4k to 4k+3 of column col, most significant pair first, and nothing but PACK and STATUS changes. -/
def Obligations.PackGivesTheClosedForm : Prop :=
  ∀ s : State, s.rasterW = 250 → s.rasterH = 124 → (∀ p, p < 31000 → (s.code.read p).isSome = true) →
    ∃ t, exec .pack s = .next t ∧
      t = { s with status := { s.status with busy := false, done := true }, pack := t.pack } ∧
      (∀ col k c0 c1 c2 c3, col < 250 → k < 31 →
        s.code.read (4 * k * 250 + col) = some c0 → s.code.read ((4 * k + 1) * 250 + col) = some c1 →
        s.code.read ((4 * k + 2) * 250 + col) = some c2 → s.code.read ((4 * k + 3) * 250 + col) = some c3 →
          t.pack.read (31 * col + k) = some (c0 ++ c1 ++ c2 ++ c3 : BitVec 8)) ∧
      (∀ b, b < 7750 → (t.pack.read b).isSome = true) ∧ (∀ b, 7750 ≤ b → t.pack.read b = none)

/-- R203 with R200, R201, R204: for n ≤ 253 and a written payload ENCODE_FRAME completes with the frame in FE_FRAME, zeros
above it and FE_FRAME_LEN = n + 4; FE_PAYLOAD[n..255] is not read; nothing but FE_FRAME, FE_FRAME_LEN and STATUS changes.
For n ≥ 254 it ends with PAYLOAD_TOO_LARGE and writes FE_FRAME_LEN <- 0 alone. -/
def Obligations.EncodeFrameBuildsTheFrame : Prop :=
  encode .encodeFrame = 0x00000004#32 ∧
  (∀ (s : State) (n : Nat) (payload : Nat → Byte), s.fePayloadLen.toNat = n → n ≤ 253 →
    (∀ i, i < n → s.fePayload.read i = some (payload i)) →
      ∃ t, exec .encodeFrame s = .next t ∧
        t = { s with
          status := { s.status with busy := false, done := true }
          feFrame := t.feFrame
          feFrameLen := t.feFrameLen } ∧
        t.feFrameLen.toNat = n + 4 ∧
        t.feFrame.read 0 = some 0x5C ∧
        (∃ len, t.feFrame.read 1 = some len ∧ len.toNat = n + 2) ∧
        t.feFrame.read 2 = some s.feCmdId ∧
        (∀ i, i < n → t.feFrame.read (3 + i) = some (payload i)) ∧
        t.feFrame.read (n + 3) = some 0x7A ∧
        (∀ k, n + 4 ≤ k → k ≤ 259 → t.feFrame.read k = some 0) ∧
        (∀ k, 260 ≤ k → t.feFrame.read k = none)) ∧
  (∀ s : State, 254 ≤ s.fePayloadLen.toNat →
    exec .encodeFrame s = .next { s with
      feFrameLen := 0
      status := { s.status with busy := false, err := true, errCode := .payloadTooLarge } })

/-- The pre-flight check of DITHER and PACK (R157, R185): unless the declared dimensions are 250 and 124 the command ends
with DIMENSION_MISMATCH and changes nothing but STATUS. -/
def Obligations.WrongDimensionsChangeOnlyStatus : Prop :=
  ∀ s : State, s.rasterW ≠ 250 ∨ s.rasterH ≠ 124 →
    let t := { s with status := { s.status with busy := false, err := true, errCode := .dimensionMismatch } }
    exec .dither s = .next t ∧ exec .pack s = .next t

/-- R42: a command that reads an element whose written mark is clear faults; the pre-flight check comes first (R223). That
the fault names the first such element in reading order is the model's choice (DESIGN CHOICE, log entry 10). -/
def Obligations.UnwrittenOperandFaults : Prop :=
  (∀ (s : State) (p : Nat), s.rasterW = 250 → s.rasterH = 124 → p < 31000 → s.src.read p = none →
    (∀ q, q < p → (s.src.read q).isSome = true) → exec .dither s = .fault (.unwrittenRead .src p)) ∧
  (∀ (s : State) (p : Nat), s.rasterW = 250 → s.rasterH = 124 → p < 31000 → s.code.read p = none →
    (∀ q, q < p → (s.code.read q).isSome = true) → exec .pack s = .fault (.unwrittenRead .code p)) ∧
  (∀ (s : State) (k : Nat), s.fePayloadLen.toNat ≤ 253 → k < s.fePayloadLen.toNat → s.fePayload.read k = none →
    (∀ j, j < k → (s.fePayload.read j).isSome = true) →
      exec .encodeFrame s = .fault (.unwrittenRead .fePayload k))

/-- The frame of every command (R94): a completion step that answers a next state writes only the results of its own
command and STATUS, of which it clears BUSY and leaves ACCESS_ERR. -/
def Obligations.CommandsWriteOnlyTheirResults : Prop :=
  ∀ (i : Instr) (s t : State), exec i s = .next t →
    t.status.busy = false ∧ t.status.accessErr = s.status.accessErr ∧
    match i with
    | .nop => t = { s with status := t.status }
    | .quantize => t = { s with status := t.status, qCode := t.qCode }
    | .dither => t = { s with status := t.status, dst := t.dst, code := t.code, acc := t.acc }
    | .pack => t = { s with status := t.status, pack := t.pack }
    | .encodeFrame => t = { s with status := t.status, feFrame := t.feFrame, feFrameLen := t.feFrameLen }

/-- R227 and R223: after an error completion the state is exactly the state before the command apart from BUSY, ERR and
ERR_CODE, and FE_FRAME_LEN <- 0 for PAYLOAD_TOO_LARGE; DONE stays 0 and the block is idle. -/
def Obligations.ErrorsArePrecise : Prop :=
  ∀ s t : State, running s → engineStep s = .next t → t.status.err = true →
    t.status.busy = false ∧ t.status.done = false ∧ t.status.errCode ≠ .none ∧
    t = { s with
      status := { s.status with busy := false, err := true, errCode := t.status.errCode }
      feFrameLen := if t.status.errCode = .payloadTooLarge then 0 else s.feFrameLen }

/-- R117: running a command again with unchanged operands leaves the same state; what is left in the scratch ACC is not
claimed (log entry 7). -/
def Obligations.RunningTwiceIsRunningOnce : Prop :=
  ∀ (i : Instr) (s t : State), exec i s = .next t → ∃ u, exec i t = .next u ∧ u = { t with acc := u.acc }

/-- R112, R117 and R94: what a command answers and writes depends on the operands R94 lists for it and on nothing else,
in particular not on the previous contents of its own outputs. -/
def Obligations.ResultsDependOnlyOnOperands : Prop :=
  ∀ (i : Instr) (s₁ s₂ : State), running s₁ → running s₂ → agreeOnOperands i s₁ s₂ →
    (∀ t₁, exec i s₁ = .next t₁ → ∃ t₂, exec i s₂ = .next t₂ ∧
      t₁.status.done = t₂.status.done ∧ t₁.status.err = t₂.status.err ∧ t₁.status.errCode = t₂.status.errCode ∧
      (t₁.status.done = true → agreeOnResults i t₁ t₂)) ∧
    (∀ f, exec i s₁ = .fault f → exec i s₂ = .fault f)

/-! ### The quantizer -/

/-- R130: the four codes, and ColourOf is the inverse of CodeOf. -/
def Obligations.CodesAreTheSpecsAndInvertible : Prop :=
  codeOf .black = 0b00#2 ∧ codeOf .white = 0b01#2 ∧ codeOf .yellow = 0b10#2 ∧ codeOf .red = 0b11#2 ∧
  (∀ c, colourOf (codeOf c) = c) ∧ (∀ k, codeOf (colourOf k) = k)

/-- R132: QuantizeS returns the first colour of least distance in the order WHITE, BLACK, RED, YELLOW, for every integer
triple, every positive scale and every palette. -/
def Obligations.QuantizerReturnsFirstMinimum : Prop :=
  ∀ (pal : Palette) (v : Triple) (s : Int), 0 < s → IsFirstNearest (dist2 pal v s) (quantizeS pal v s)

/-- R134: QuantizeS(s·v, s) = QuantizeS(v, 1). -/
def Obligations.QuantizerIsScaleInvariant : Prop :=
  ∀ (pal : Palette) (v : Triple) (s : Int), 0 < s →
    quantizeS pal { r := s * v.r, g := s * v.g, b := s * v.b } s = quantizeS pal v 1

/-- R136: quantizing a canonical palette value returns that colour, for every palette the model accepts. -/
def Obligations.PaletteColoursAreFixedPoints : Prop :=
  ∀ (pal : Palette) (c : Colour), pal.wellFormed = true → quantize8 pal (paletteRgb pal c) = c

/-- R139: the closed form for PALETTE_DEFAULT, and where exact ties of integer inputs are possible. -/
def Obligations.DefaultPaletteHasLinearKeys : Prop :=
  (∀ (v : Triple) (s : Int) (c : Colour),
    dist2 Config.paletteDefault v s c = v.r ^ 2 + v.g ^ 2 + v.b ^ 2 + 255 * s * defaultKey v s c) ∧
  (∀ (v : Triple) (s : Int), 0 < s →
    IsFirstNearest (defaultKey v s) (quantizeS Config.paletteDefault v s)) ∧
  (∀ v : Triple,
    (dist2 Config.paletteDefault v 1 .white = dist2 Config.paletteDefault v 1 .red ↔ v.g + v.b = 255) ∧
    (dist2 Config.paletteDefault v 1 .black = dist2 Config.paletteDefault v 1 .yellow ↔ v.r + v.g = 255) ∧
    dist2 Config.paletteDefault v 1 .white ≠ dist2 Config.paletteDefault v 1 .black ∧
    dist2 Config.paletteDefault v 1 .white ≠ dist2 Config.paletteDefault v 1 .yellow ∧
    dist2 Config.paletteDefault v 1 .black ≠ dist2 Config.paletteDefault v 1 .red ∧
    dist2 Config.paletteDefault v 1 .red ≠ dist2 Config.paletteDefault v 1 .yellow)

/-! ### The ditherer -/

/-- R151: a share is ⌊e·w/16 + 1/2⌋: exact when 16 divides e·w, in particular for a whole number of levels; else within
half an ulp; half-way values go up. -/
def Obligations.SharesAreRoundedHalfUp : Prop :=
  ∀ e w : Int,
    16 * contrib e w ≤ e * w + 8 ∧ e * w + 8 < 16 * contrib e w + 16 ∧
    ((16 : Int) ∣ e * w → 16 * contrib e w = e * w) ∧ ((256 : Int) ∣ e → 16 * contrib e w = e * w)

/-- R155: clip to 0..255·256 and take the floor of the level; clipping after truncating gives the same. -/
def Obligations.OutputIsClippedAndTruncated : Prop :=
  ∀ a : Int,
    (a ≤ 0 → (toByte a).toNat = 0) ∧
    (0 ≤ a → a ≤ 65280 → ((toByte a).toNat : Int) = a / 256) ∧
    (65280 ≤ a → (toByte a).toNat = 255) ∧
    ((toByte a).toNat : Int) = min (max (a / 256) 0) 255

/-- R154: the processed pixels are those with y ≤ 122 and x ≤ 248, each once, in row-major order, 30627 in all. -/
def Obligations.ScanVisitsProcessedPixelsInOrder : Prop :=
  scanOrder.length = 30627 ∧
  (∀ x y, (x, y) ∈ scanOrder ↔ x ≤ 248 ∧ y ≤ 122) ∧
  scanOrder.Pairwise (fun a b => a.2 < b.2 ∨ a.2 = b.2 ∧ a.1 < b.1)

/-- R152, R153, R156: what the work on one processed pixel does to every accumulator: the pixel takes the palette value,
each neighbour gains its share of the error, and the south-west share at x = 0 follows the policy. -/
def Obligations.OnePixelDiffusesItsError : Prop :=
  ∀ (pal : Palette) (pol : WestEdge) (acc : AccArray) (x y q : Nat),
    Array.size acc = 31000 → x ≤ 248 → y ≤ 122 → q < 31000 →
      let old := acc.at (y * 250 + x)
      let new := pixelQ8 (paletteRgb pal (quantizeS pal old 256))
      let e : Triple := { r := old.r - new.r, g := old.g - new.g, b := old.b - new.b }
      let gain (target : Option Nat) (w : Int) := if target = some q then share e w else Triple.zero
      let southWest : Option Nat :=
        if 1 ≤ x then some ((y + 1) * 250 + (x - 1))
        else match pol with
          | .skip => none
          | .clamp => some ((y + 1) * 250)
          | .wrap => some ((y + 1) * 250 + 249)
      (ditherPixel pal pol acc (x, y)).at q =
        if q = y * 250 + x then new
        else ((((acc.at q).add (gain (some (y * 250 + (x + 1))) 7)).add (gain southWest 3)).add
          (gain (some ((y + 1) * 250 + x)) 5)).add (gain (some ((y + 1) * 250 + (x + 1))) 1)

/-- R157 and R161 as a recurrence, without a scan: there are values `old` (each pixel's accumulator when it is processed,
or at the end) and errors `e` such that every `old` is the source value plus the shares of R161, every processed pixel's
error is old − palette value, every other error is 0, and DST and CODE are what the output stage makes of them. -/
def Obligations.DitherMeetsTheShareRecurrence : Prop :=
  ∀ s : State, s.rasterW = 250 → s.rasterH = 124 → (∀ p, p < 31000 → (s.src.read p).isSome = true) →
    ∃ (t : State) (old e : Nat → Nat → Triple), exec .dither s = .next t ∧
      (∀ x y, ¬processed x y → e x y = Triple.zero) ∧
      (∀ x y, processed x y → e x y = errorOf s.palette (old x y)) ∧
      ∀ x y, x < 250 → y < 124 → ∃ c out,
        s.src.read (y * 250 + x) = some c ∧
        old x y = (pixelQ8 c).add (received s.westEdge e x y) ∧
        t.dst.read (y * 250 + x) = some out ∧
        (processed x y → out = paletteRgb s.palette (quantizeS s.palette (old x y) 256)) ∧
        (¬processed x y → out = { r := toByte (old x y).r, g := toByte (old x y).g, b := toByte (old x y).b }) ∧
        t.code.read (y * 250 + x) = some (codeOf (quantize8 s.palette out))

/-- R160: every processed pixel ends exactly on a palette colour, and its CODE is that colour's code. -/
def Obligations.ProcessedPixelsEndOnThePalette : Prop :=
  ∀ s t : State, s.palette.wellFormed = true → s.rasterW = 250 → s.rasterH = 124 → exec .dither s = .next t →
    ∀ x y, x ≤ 248 → y ≤ 122 → ∃ c : Colour,
      t.dst.read (y * 250 + x) = some (paletteRgb s.palette c) ∧ t.code.read (y * 250 + x) = some (codeOf c)

/-- R162: DITHER is the identity on a raster all of whose pixels are palette colours. -/
def Obligations.DitherIsIdentityOnPaletteImages : Prop :=
  ∀ (s : State) (image : Nat → Colour), s.palette.wellFormed = true → s.rasterW = 250 → s.rasterH = 124 →
    (∀ p, p < 31000 → s.src.read p = some (paletteRgb s.palette (image p))) →
      ∃ t, exec .dither s = .next t ∧
        ∀ p, p < 31000 → t.dst.read p = s.src.read p ∧ t.code.read p = some (codeOf (image p))

/-- R163: no accumulator overflow. At every point of the scan of any raster, under any policy and palette, every ACC value
stays within 7,810,381 levels and every error within 7,810,125 levels, so both fit 32-bit Q.8, e·w + 8 fits 35 bits and
every Dist2 of the scan is below 2^64. -/
def Obligations.AccumulatorNeverOverflows : Prop :=
  ∀ (pal : Palette) (pol : WestEdge) (raster : List Rgb), raster.length = 31000 →
    (∀ k p, k ≤ 30627 → p < 31000 →
      within (7810381 * 256) ((accAfter pal pol raster k).at p) ∧
      within (2 ^ 31) ((accAfter pal pol raster k).at p)) ∧
    (∀ k x y, k < 30627 → scanOrder[k]? = some (x, y) →
      let old := (accAfter pal pol raster k).at (y * 250 + x)
      within (7810125 * 256) (errorOf pal old) ∧
      (∀ w : Int, w = 1 ∨ w = 3 ∨ w = 5 ∨ w = 7 →
        within (2 ^ 34) { r := (errorOf pal old).r * w + 8, g := (errorOf pal old).g * w + 8,
                          b := (errorOf pal old).b * w + 8 }) ∧
      ∀ c, dist2 pal old 256 c < 2 ^ 64)

/-! ### The packer -/

/-- R182 and R184: PutCode changes the two bits of its own field in its own byte and no other bit of the buffer. -/
def Obligations.PutCodeWritesOneField : Prop :=
  ∀ (buf : Array Byte) (index : Nat) (code : Code) (b : Nat) (old : Byte), buf[b]? = some old →
    ∃ new : Byte, (putCode buf index code)[b]? = some new ∧
      (b ≠ index / 4 → new = old) ∧
      (b = index / 4 →
        new.extractLsb' (6 - 2 * (index % 4)) 2 = code ∧
        ∀ j, j < 8 → j ≠ 6 - 2 * (index % 4) → j ≠ 6 - 2 * (index % 4) + 1 → new.getLsbD j = old.getLsbD j)

/-- R187: row + 124·col is a bijection from the 31000 positions onto 0..30999, and every byte index is below 7750. -/
def Obligations.PackIndexIsABijection : Prop :=
  (∀ row col, row < 124 → col < 250 → packIndex row col < 31000 ∧ packIndex row col / 4 < 7750) ∧
  (∀ row col row' col', row < 124 → col < 250 → row' < 124 → col' < 250 →
    packIndex row col = packIndex row' col' → row = row' ∧ col = col') ∧
  (∀ i, i < 31000 → ∃ row col, row < 124 ∧ col < 250 ∧ packIndex row col = i)

/-- R189: unpacking inverts PACK. -/
def Obligations.UnpackingInvertsPack : Prop :=
  ∀ s t : State, s.rasterW = 250 → s.rasterH = 124 → exec .pack s = .next t →
    ∀ row col, row < 124 → col < 250 → ∃ b : Byte,
      t.pack.read ((row + 124 * col) / 4) = some b ∧
      s.code.read (row * 250 + col) = some (b.extractLsb' (6 - 2 * ((row + 124 * col) % 4)) 2)

/-! ### The port -/

/-- The address map of R62: each element or word of each window, and each register, at its address. -/
def Obligations.AddressMapIsTheTable : Prop :=
  (∀ k, k < 31000 →
    decodeAddress (BitVec.ofNat 20 (0x20000 + 4 * k)) = .element .src k ∧
    decodeAddress (BitVec.ofNat 20 (0x40000 + 4 * k)) = .element .dst k ∧
    decodeAddress (BitVec.ofNat 20 (0x60000 + 4 * k)) = .element .code k) ∧
  (∀ k, k < 1938 → decodeAddress (BitVec.ofNat 20 (0x80000 + 4 * k)) = .element .pack k) ∧
  (∀ k, k < 64 → decodeAddress (BitVec.ofNat 20 (0x82000 + 4 * k)) = .element .fePayload k) ∧
  (∀ k, k < 65 → decodeAddress (BitVec.ofNat 20 (0x83000 + 4 * k)) = .element .feFrame k) ∧
  [0x00#20, 0x04, 0x08, 0x0C, 0x10, 0x14, 0x18, 0x1C, 0x20, 0x24, 0x28, 0x2C, 0x30, 0x34, 0x38, 0x3C].map
      decodeAddress =
    [.register .id, .register .cmd, .register .status, .register .intEn, .register .config, .register .rasterW,
      .register .rasterH, .register .qRgb, .register .qCode, .register .feCmdId, .register .fePayloadLen,
      .register .feFrameLen, .register .palWhite, .register .palBlack, .register .palRed, .register .palYellow]

/-- R61 and R63: a misaligned or unmapped access is rejected: a read returns 0, a write changes nothing, either sets
ACCESS_ERR; alignment is checked first. -/
def Obligations.MisalignedAndUnmappedAreRejected : Prop :=
  ∀ (a : Addr) (v : Word) (s : State), a.toNat % 4 ≠ 0 ∨ unmapped a.toNat →
    busRead a s = .next (afterRejectedRead s) ∧ isRejectedWriteOf s (busWrite a v s)

/-- R70: while BUSY every access to a RAM window is rejected: a read returns 0, a write changes nothing, both set
ACCESS_ERR. -/
def Obligations.BusyRamAccessIsRejected : Prop :=
  ∀ (w : Window) (k : Nat) (v : Word) (s : State), k < w.words → s.status.busy = true →
    busRead (BitVec.ofNat 20 (windowBase w + 4 * k)) s = .next (afterRejectedRead s) ∧
    isRejectedWriteOf s (busWrite (BitVec.ofNat 20 (windowBase w + 4 * k)) v s)

/-- R71: reads of every register are accepted at any time; during BUSY writes to STATUS and INT_EN are accepted, writes to
CMD and the operand registers are rejected, writes to read-only registers are ignored without error. STATUS and INT_EN
writes do the same whether BUSY is 1 or 0 (R24, R25). -/
def Obligations.RegisterAccessWhileBusy : Prop :=
  (∀ (s : State) (r : Reg),
    busRead (BitVec.ofNat 20 (regOffset r)) s = .next { s with busData := some (readReg r s) }) ∧
  (∀ (s : State) (v : Word), s.status.busy = true →
    (∀ r ∈ [Reg.cmd, .config, .rasterW, .rasterH, .qRgb, .feCmdId, .fePayloadLen],
      isRejectedWriteOf s (busWrite (BitVec.ofNat 20 (regOffset r)) v s)) ∧
    (∀ r ∈ [Reg.id, .qCode, .feFrameLen, .palWhite, .palBlack, .palRed, .palYellow],
      isIgnoredWriteOf s (busWrite (BitVec.ofNat 20 (regOffset r)) v s))) ∧
  ∀ (s : State) (v : Word),
    (let t := busWrite 0x0000C#20 v s;
      t = { s with
        intEn := { doneIe := v.getLsbD 0, errIe := v.getLsbD 1, accessErrIe := v.getLsbD 2 }
        busData := t.busData }) ∧
    (let t := busWrite 0x00008#20 v s;
      t = { s with status := statusAfterWrite s.status v, busData := t.busData })

/-- The word STATUS reads as (R24, R221); a write of 0x0000000E, the CLEAR of R99, clears DONE, ERR, ERR_CODE and
ACCESS_ERR and lets irq fall; irq is the OR of the three flags, each under its enable bit, and 0 after reset (R225). -/
def Obligations.StatusWordClearAndIrq : Prop :=
  (∀ s : State,
    s.status.toWord.getLsbD 0 = s.status.busy ∧ s.status.toWord.getLsbD 1 = s.status.done ∧
    s.status.toWord.getLsbD 2 = s.status.err ∧ s.status.toWord.getLsbD 3 = s.status.accessErr ∧
    (s.status.toWord.extractLsb' 4 4 : BitVec 4) =
      (match s.status.errCode with
        | .none => 0
        | .illegalCommand => 1
        | .dimensionMismatch => 2
        | .payloadTooLarge => 3) ∧
    (s.status.toWord.extractLsb' 8 24 : BitVec 24) = 0 ∧
    (busWrite 0x00008#20 0x0000000E s).status =
      { busy := s.status.busy, done := false, err := false, errCode := .none, accessErr := false } ∧
    (busWrite 0x00008#20 0x0000000E s).irq = false) ∧
  (∀ s : State, s.irq = true ↔
    (s.status.done = true ∧ s.intEn.doneIe = true) ∨ (s.status.err = true ∧ s.intEn.errIe = true) ∨
      (s.status.accessErr = true ∧ s.intEn.accessErrIe = true)) ∧
  (∀ (s : State) (lost : Nat), (resetBlock lost s).irq = false)

/-- R22 to R34, R64: what an accepted write of v puts in each register, that it changes that register alone, and what the
register then reads as. STATUS is write-1-to-clear flag by flag (R24, R228); CONFIG is write-any-read-legal, with 0, 1 and
2 for SKIP, CLAMP and WRAP (R26); Q_RGB holds R, G and B from bit 23 down (R29); Q_CODE and FE_FRAME_LEN read as the
result they hold (R30, R33). CMD's write is `IdleCmdWriteIsAccepted`. -/
def Obligations.RegisterWritesReadBack : Prop :=
  ∀ (s : State) (v : Word), s.status.busy = false →
    (let t := busWrite 0x00008#20 v s;
      t = { s with status := statusAfterWrite s.status v, busData := t.busData }) ∧
    (let t := busWrite 0x0000C#20 v s;
      t = { s with
        intEn := { doneIe := v.getLsbD 0, errIe := v.getLsbD 1, accessErrIe := v.getLsbD 2 }
        busData := t.busData } ∧
      readReg .intEn t = v &&& 0x00000007) ∧
    (let t := busWrite 0x00010#20 v s;
      t = { s with westEdge := t.westEdge, busData := t.busData } ∧
      ((v.extractLsb' 0 2 : BitVec 2) = 0 → t.westEdge = .skip) ∧
      ((v.extractLsb' 0 2 : BitVec 2) = 1 → t.westEdge = .clamp) ∧
      ((v.extractLsb' 0 2 : BitVec 2) = 2 → t.westEdge = .wrap) ∧
      ((v.extractLsb' 0 2 : BitVec 2) = 3 → t.westEdge = s.westEdge) ∧
      readReg .config t = if v &&& 0x00000003 = 0x00000003 then readReg .config s else v &&& 0x00000003) ∧
    (let t := busWrite 0x00014#20 v s;
      t = { s with rasterW := v.extractLsb' 0 16, busData := t.busData } ∧ readReg .rasterW t = v &&& 0x0000FFFF) ∧
    (let t := busWrite 0x00018#20 v s;
      t = { s with rasterH := v.extractLsb' 0 16, busData := t.busData } ∧ readReg .rasterH t = v &&& 0x0000FFFF) ∧
    (let t := busWrite 0x0001C#20 v s;
      t = { s with
        qRgb := { r := v.extractLsb' 16 8, g := v.extractLsb' 8 8, b := v.extractLsb' 0 8 }
        busData := t.busData } ∧
      readReg .qRgb t = v &&& 0x00FFFFFF) ∧
    (let t := busWrite 0x00024#20 v s;
      t = { s with feCmdId := v.extractLsb' 0 8, busData := t.busData } ∧ readReg .feCmdId t = v &&& 0x000000FF) ∧
    (let t := busWrite 0x00028#20 v s;
      t = { s with fePayloadLen := v.extractLsb' 0 8, busData := t.busData } ∧
      readReg .fePayloadLen t = v &&& 0x000000FF) ∧
    (∀ r ∈ [Reg.id, .qCode, .feFrameLen, .palWhite, .palBlack, .palRed, .palYellow],
      isIgnoredWriteOf s (busWrite (BitVec.ofNat 20 (regOffset r)) v s)) ∧
    readReg .id s = 0x434F4C51 ∧ readReg .cmd s = 0 ∧
    readReg .qCode s = (0#30 ++ s.qCode : BitVec 32) ∧
    readReg .feFrameLen s = (0#23 ++ s.feFrameLen : BitVec 32) ∧
    readReg .palWhite s = (0#8 ++ s.palette.white.r ++ s.palette.white.g ++ s.palette.white.b : BitVec 32) ∧
    readReg .palBlack s = (0#8 ++ s.palette.black.r ++ s.palette.black.g ++ s.palette.black.b : BitVec 32) ∧
    readReg .palRed s = (0#8 ++ s.palette.red.r ++ s.palette.red.g ++ s.palette.red.b : BitVec 32) ∧
    readReg .palYellow s = (0#8 ++ s.palette.yellow.r ++ s.palette.yellow.g ++ s.palette.yellow.b : BitVec 32)

/-- R65, R66, R67: an accepted write to SRC_RAM, CODE_RAM or FE_PAYLOAD reads back with its undefined bits 0; only the
written elements change; byte i of a payload word is in lane i. -/
def Obligations.RamWritesReadBack : Prop :=
  ∀ (s : State) (v : Word) (k : Nat), s.status.busy = false →
    (k < 31000 →
      let t := busWrite (BitVec.ofNat 20 (0x20000 + 4 * k)) v s
      busRead (BitVec.ofNat 20 (0x20000 + 4 * k)) t = .next { t with busData := some (v &&& 0x00FFFFFF) } ∧
      t = { s with src := t.src, busData := t.busData } ∧ ∀ j, j ≠ k → t.src.read j = s.src.read j) ∧
    (k < 31000 →
      let t := busWrite (BitVec.ofNat 20 (0x60000 + 4 * k)) v s
      busRead (BitVec.ofNat 20 (0x60000 + 4 * k)) t = .next { t with busData := some (v &&& 0x00000003) } ∧
      t = { s with code := t.code, busData := t.busData } ∧ ∀ j, j ≠ k → t.code.read j = s.code.read j) ∧
    (k < 64 →
      let t := busWrite (BitVec.ofNat 20 (0x82000 + 4 * k)) v s
      busRead (BitVec.ofNat 20 (0x82000 + 4 * k)) t = .next { t with busData := some v } ∧
      t = { s with fePayload := t.fePayload, busData := t.busData } ∧
      (∀ i, i < 4 → t.fePayload.read (4 * k + i) = some (v.extractLsb' (8 * i) 8)) ∧
      ∀ j, j / 4 ≠ k → t.fePayload.read j = s.fePayload.read j)

/-- R65, R66, R67: what an accepted read of each window returns: pixels and codes with their undefined bits 0, byte-array
words little-endian in their lanes, and lanes 2 and 3 of PACK_RAM word 1937 as 0. -/
def Obligations.WindowsReadTheirElements : Prop :=
  (∀ (s : State) (k : Nat), s.status.busy = false → k < 31000 →
    (∀ c, s.src.read k = some c →
      busRead (BitVec.ofNat 20 (0x20000 + 4 * k)) s =
        .next { s with busData := some (0#8 ++ c.r ++ c.g ++ c.b : BitVec 32) }) ∧
    (∀ c, s.dst.read k = some c →
      busRead (BitVec.ofNat 20 (0x40000 + 4 * k)) s =
        .next { s with busData := some (0#8 ++ c.r ++ c.g ++ c.b : BitVec 32) }) ∧
    (∀ c, s.code.read k = some c →
      busRead (BitVec.ofNat 20 (0x60000 + 4 * k)) s = .next { s with busData := some (0#30 ++ c : BitVec 32) })) ∧
  (∀ (s : State) (j : Nat) (b0 b1 b2 b3 : Byte), s.status.busy = false →
    let word : Word := (b3 ++ b2 ++ b1 ++ b0 : BitVec 32)
    (j < 1937 → s.pack.read (4 * j) = some b0 → s.pack.read (4 * j + 1) = some b1 →
      s.pack.read (4 * j + 2) = some b2 → s.pack.read (4 * j + 3) = some b3 →
        busRead (BitVec.ofNat 20 (0x80000 + 4 * j)) s = .next { s with busData := some word }) ∧
    (s.pack.read 7748 = some b0 → s.pack.read 7749 = some b1 →
      busRead 0x81E44#20 s = .next { s with busData := some (0#16 ++ b1 ++ b0 : BitVec 32) }) ∧
    (j < 64 → s.fePayload.read (4 * j) = some b0 → s.fePayload.read (4 * j + 1) = some b1 →
      s.fePayload.read (4 * j + 2) = some b2 → s.fePayload.read (4 * j + 3) = some b3 →
        busRead (BitVec.ofNat 20 (0x82000 + 4 * j)) s = .next { s with busData := some word }) ∧
    (j < 65 → s.feFrame.read (4 * j) = some b0 → s.feFrame.read (4 * j + 1) = some b1 →
      s.feFrame.read (4 * j + 2) = some b2 → s.feFrame.read (4 * j + 3) = some b3 →
        busRead (BitVec.ofNat 20 (0x83000 + 4 * j)) s = .next { s with busData := some word }))

/-- R68: an aligned write to DST_RAM, PACK_RAM or FE_FRAME while idle is accepted and ignored. -/
def Obligations.ReadOnlyWindowsIgnoreWrites : Prop :=
  ∀ (w : Window) (k : Nat) (v : Word) (s : State), w = .dst ∨ w = .pack ∨ w = .feFrame → k < w.words →
    s.status.busy = false →
      isIgnoredWriteOf s (busWrite (BitVec.ofNat 20 (windowBase w + 4 * k)) v s)

/-- R42: a host read of an element whose written mark is clear is a fault, never a value. -/
def Obligations.HostReadOfUnwrittenFaults : Prop :=
  ∀ (s : State) (k : Nat), s.status.busy = false →
    (k < 31000 → s.src.read k = none →
      busRead (BitVec.ofNat 20 (0x20000 + 4 * k)) s = .fault (.unwrittenRead .src k)) ∧
    (k < 31000 → s.dst.read k = none →
      busRead (BitVec.ofNat 20 (0x40000 + 4 * k)) s = .fault (.unwrittenRead .dst k)) ∧
    (k < 31000 → s.code.read k = none →
      busRead (BitVec.ofNat 20 (0x60000 + 4 * k)) s = .fault (.unwrittenRead .code k)) ∧
    (k < 7750 → s.pack.read k = none →
      ∃ f, busRead (BitVec.ofNat 20 (0x80000 + 4 * (k / 4))) s = .fault f) ∧
    (k < 256 → s.fePayload.read k = none →
      ∃ f, busRead (BitVec.ofNat 20 (0x82000 + 4 * (k / 4))) s = .fault f) ∧
    (k < 260 → s.feFrame.read k = none →
      ∃ f, busRead (BitVec.ofNat 20 (0x83000 + 4 * (k / 4))) s = .fault f)

/-- R20 and R60: the host's turn performs the first action of its list and takes it off: a read is `busRead` of its
address, a write is `busWrite`. R99: one turn of the loop POLL reads STATUS and leaves the loop when bit 0 of the returned word is 0; that a
turn inside the loop reads the current STATUS word (R71) is the model's choice (log entry 14). R75 and R256: a host that
waits for `irq` goes on when it is 1, and issues no transaction. -/
def Obligations.HostLoopsWaitForTheBlock : Prop :=
  ∀ (s : State) (rest : List HostAction),
    (∀ a, s.hostProg = .read a :: rest → hostStep s = busRead a { s with hostProg := rest }) ∧
    (∀ a v, s.hostProg = .write a v :: rest → hostStep s = .next (busWrite a v { s with hostProg := rest })) ∧
    (s.hostProg = .poll :: rest →
      hostStep s = .next { s with
        busData := some s.status.toWord
        hostProg := if s.status.busy then .poll :: rest else rest }) ∧
    (s.hostProg = .waitIrq :: rest →
      hostStep s = .next { s with hostProg := if s.irq then rest else .waitIrq :: rest })

/-! ### Host and engine together -/

/-- R30, R37, R39, R41, R46: no turn of the host changes Q_CODE, FE_FRAME_LEN, DST_RAM, PACK_RAM, FE_FRAME, the hidden ACC
or PALETTE; only the engine writes results. -/
def Obligations.HostNeverWritesResults : Prop :=
  ∀ s t : State, hostStep s = .next t →
    t.qCode = s.qCode ∧ t.feFrameLen = s.feFrameLen ∧ t.dst = s.dst ∧ t.pack = s.pack ∧ t.feFrame = s.feFrame ∧
      t.acc = s.acc ∧ t.palette = s.palette

/-- R30: only a success completion of QUANTIZE changes Q_CODE, apart from a reset (R251). -/
def Obligations.OnlyQuantizeWritesQCode : Prop :=
  ∀ s t : State, step s = .next t → t.qCode ≠ s.qCode →
    (s.nextTurn = .engine ∧ s.status.busy = true ∧ s.curCmd = 0x00000001#32 ∧ t.status.done = true) ∨
      ∃ lost, s.nextTurn = .reset lost

/-- R70, R71, R257, R258: while BUSY a turn of the host always answers a next state and changes nothing but STATUS's
write-1-to-clear flags, ACCESS_ERR, INT_EN and the model's own `busData` and `hostProg`. -/
def Obligations.BusyFreezesTheBlock : Prop :=
  ∀ s : State, s.status.busy = true →
    ∃ t, hostStep s = .next t ∧ t.status.busy = true ∧
      t = { s with status := t.status, intEn := t.intEn, busData := t.busData, hostProg := t.hostProg }

/-- R74 and R112: when the completion step is taken makes no difference. A turn of the host between accept and completion
leaves the command's outcome as it was, apart from ACCESS_ERR, INT_EN and the model's own `busData` and `hostProg`; a
command that faults on an unwritten operand (R42) faults as it would have. -/
def Obligations.HostTurnsDoNotDisturbACommand : Prop :=
  ∀ s s' : State, running s → hostStep s = .next s' →
    (∀ t, engineStep s = .next t →
      engineStep s' = .next { t with
        status := { t.status with accessErr := s'.status.accessErr }
        intEn := s'.intEn
        busData := s'.busData
        hostProg := s'.hostProg }) ∧
    ∀ f, engineStep s = .fault f → engineStep s' = .fault f

/-- R99 with R110 and R112: the line RUN writes CMD, the engine completes and POLL ends; three steps later the state is
what the command's completion step leaves, with STATUS as the word last read (log entry 4 for the empty schedule). -/
def Obligations.RunLineRunsItsCommand : Prop :=
  ∀ (s t : State) (i : Instr) (rest : List HostAction), s.palette.wellFormed = true → s.turns = [] →
    s.status.busy = false → s.hostProg = expandLine (.run i) ++ rest →
    exec i { s with
      curCmd := encode i
      status := { busy := true, done := false, err := false, errCode := .none, accessErr := s.status.accessErr }
      busData := none
      hostProg := .poll :: rest } = .next t →
      Host.Core.run Sys2Proof.core 3 s = .next { t with hostProg := rest, busData := some t.status.toWord }

/-! ### Reset and invariants -/

/-- R253: what the host finds after a reset, whatever was running: STATUS 0 and irq 0, INT_EN 0, SKIP, the operand and
result registers 0, no command latched, every written mark cleared (R251, R252); PALETTE is a constant of the build. -/
def Obligations.ResetLeavesTheInitialState : Prop :=
  ∀ (s t : State) (lost : Nat), s.palette.wellFormed = true → s.nextTurn = .reset lost → step s = .next t →
    readReg .status t = 0x00000000 ∧ t.irq = false ∧ readReg .intEn t = 0 ∧ t.westEdge = .skip ∧
    readReg .rasterW t = 0 ∧ readReg .rasterH t = 0 ∧ readReg .qRgb t = 0 ∧ readReg .qCode t = 0 ∧
    readReg .feCmdId t = 0 ∧ readReg .fePayloadLen t = 0 ∧ readReg .feFrameLen t = 0 ∧
    t.status.busy = false ∧ t.palette = s.palette ∧
    ∀ i, t.src.read i = none ∧ t.dst.read i = none ∧ t.code.read i = none ∧ t.pack.read i = none ∧
      t.fePayload.read i = none ∧ t.feFrame.read i = none ∧ t.acc.read i = none

/-- The state after reset meets the invariant. State.reset is built with PALETTE_DEFAULT (log entry 1). -/
def Obligations.ResetMeetsTheInvariant : Prop :=
  State.reset.Inv ∧ State.reset.frameBufferHoldsFrame

/-- Every step of every agent keeps the invariant: the flags' rules of R24, the legal values of FE_FRAME_LEN (R33), a
palette the model accepts (R131), and every RAM in canonical form within its size (R36 to R42, R46). -/
def Obligations.StepKeepsTheInvariant : Prop :=
  ∀ s t : State, s.Inv → step s = .next t → t.Inv

/-- Whenever FE_FRAME_LEN is not 0, FE_FRAME holds a whole frame of that length, all of its bytes written, with the start
byte, the length field and the end byte of R200 and R201 in their places and the zeros of R204 above, and every step keeps
it so: a host that sends FE_FRAME[0..FE_FRAME_LEN−1] never sends a torn frame (R260). -/
def Obligations.StepKeepsTheFrameWhole : Prop :=
  ∀ s t : State, s.frameBufferHoldsFrame → step s = .next t → t.frameBufferHoldsFrame

/-! ### Host procedures -/

/-- R237: cutting a 7750-byte buffer gives 122 payloads, 121 of 65 bytes and one of 7; payload number s is the byte s
followed by its chunk; the chunks in order are the buffer; the frames add up to 8360 bytes on the wire. R239: a
configuration payload the host accepts is at most 98 bytes, so ENCODE_FRAME never finds it too large. -/
def Obligations.HostPayloadsFitTheirFrames : Prop :=
  (∀ buf : List Byte, buf.length = 7750 →
    (packetize buf).length = 122 ∧
    (packetize buf).flatMap List.tail = buf ∧
    (∀ s payload, (packetize buf)[s]? = some payload →
      payload.head? = some (BitVec.ofNat 8 s) ∧ payload.length = if s < 121 then 65 else 7) ∧
    (((packetize buf).map fun payload => (frameOf 0x01 payload).length).sum = 8360)) ∧
  (∀ ssid password payload : List Byte, configPayload ssid password = some payload →
    ssid.length ≤ 32 ∧ password.length ≤ 64 ∧ payload.length ≤ 98 ∧ payload.length + 2 ≤ 255)
end

