-- ==== Sys2Proof/Laws/Memory.lean ====
section
/-! SUPPORT. The laws of a RAM: read after write, canonical form kept by every operation, what reading many elements
answers, and what a RAM written whole holds. -/

namespace Sys2Proof.Machine

variable {α : Type}

@[simp] theorem Memory.read_nil (i : Nat) : Memory.read ([] : Memory α) i = none := rfl

theorem Memory.read_write (m : Memory α) (i j : Nat) (v : α) :
    (m.write i v).read j = if j = i then some v else m.read j := by
  induction m with
  | nil => simp [Memory.write, Memory.read_cons]
  | cons c m ih =>
    obtain ⟨k, u⟩ := c
    by_cases h1 : i < k
    · simp [Memory.write, h1, Memory.read_cons]
    · by_cases h2 : i = k
      · subst h2
        by_cases h : j = i <;> simp [Memory.write, Memory.read_cons, h]
      · have hk : ¬k = i := fun h => h2 h.symm
        by_cases h : j = k
        · subst h; simp [Memory.write, h1, h2, hk, Memory.read_cons]
        · simp [Memory.write, h1, h2, Memory.read_cons, ih, h]

@[simp] theorem Memory.read_write_same (m : Memory α) (i : Nat) (v : α) : (m.write i v).read i = some v := by
  simp [Memory.read_write]

theorem Memory.read_write_other (m : Memory α) {i j : Nat} (v : α) (h : j ≠ i) :
    (m.write i v).read j = m.read j := by
  simp [Memory.read_write, h]

/-! ### Canonical form -/

theorem Memory.wf_iff {size : Nat} {m : Memory α} :
    m.wf size = true ↔ (m.map Prod.fst).Pairwise (· < ·) ∧ ∀ c ∈ m, c.1 < size := by
  simp [Memory.wf]

theorem Memory.wf_nil (size : Nat) : Memory.wf size ([] : Memory α) = true := by simp [Memory.wf_iff]

theorem Memory.mem_keys_write {m : Memory α} {i k : Nat} {v : α} (h : k ∈ (m.write i v).map Prod.fst) :
    k = i ∨ k ∈ m.map Prod.fst := by
  induction m with
  | nil => simpa [Memory.write] using h
  | cons c m ih =>
    obtain ⟨k', u⟩ := c
    simp only [Memory.write] at h
    split at h
    · simpa using h
    · split at h
      · rcases List.mem_cons.1 h with h | h
        · exact .inl h
        · exact .inr (List.mem_cons_of_mem _ h)
      · rcases List.mem_cons.1 h with h | h
        · exact .inr (by simp [h])
        · exact (ih h).imp_right (List.mem_cons_of_mem _)

theorem Memory.write_rising {m : Memory α} {i : Nat} {v : α} (h : (m.map Prod.fst).Pairwise (· < ·)) :
    ((m.write i v).map Prod.fst).Pairwise (· < ·) := by
  induction m with
  | nil => simp [Memory.write]
  | cons c m ih =>
    obtain ⟨k, u⟩ := c
    rw [List.map_cons, List.pairwise_cons] at h
    simp only [Memory.write]
    split
    · rename_i hik
      simp only [List.map_cons, List.pairwise_cons]
      refine ⟨fun j hj => ?_, h.1, h.2⟩
      rcases List.mem_cons.1 hj with rfl | hj
      · exact hik
      · exact Nat.lt_trans hik (h.1 j hj)
    · split
      · rename_i hik
        subst hik
        exact List.pairwise_cons.2 h
      · refine List.pairwise_cons.2 ⟨fun j hj => ?_, ih h.2⟩
        rcases Memory.mem_keys_write hj with rfl | hj
        · simp only; omega
        · exact h.1 j hj

/-- A write inside the RAM keeps the canonical form. -/
theorem Memory.write_wf {size i : Nat} {m : Memory α} {v : α} (h : m.wf size = true) (hi : i < size) :
    (m.write i v).wf size = true := by
  rw [Memory.wf_iff] at *
  refine ⟨Memory.write_rising h.1, fun c hc => ?_⟩
  rcases Memory.mem_keys_write (List.mem_map_of_mem (f := Prod.fst) hc) with hk | hk
  · omega
  · obtain ⟨d, hd, hdc⟩ := List.mem_map.1 hk
    exact hdc ▸ h.2 d hd

theorem Memory.ofListFrom_keys (k : Nat) (vs : List α) :
    (Memory.ofListFrom k vs).map Prod.fst = List.range' k vs.length := by
  induction vs generalizing k with
  | nil => rfl
  | cons v vs ih => simp [Memory.ofListFrom, ih, List.range'_succ]

/-- A RAM written whole is in canonical form. -/
theorem Memory.ofList_wf {size : Nat} {vs : List α} (h : vs.length ≤ size) : (Memory.ofList vs).wf size = true := by
  have hk := Memory.ofListFrom_keys 0 vs
  rw [Memory.wf_iff, Memory.ofList, hk]
  refine ⟨List.pairwise_lt_range', fun c hc => ?_⟩
  have := hk ▸ List.mem_map_of_mem (f := Prod.fst) hc
  have := List.mem_range'.1 this
  omega

theorem Memory.read_ofListFrom (k i : Nat) (vs : List α) :
    (Memory.ofListFrom k vs).read i = if k ≤ i then vs[i - k]? else none := by
  induction vs generalizing k with
  | nil => simp [Memory.ofListFrom]
  | cons v vs ih =>
    rw [Memory.ofListFrom, Memory.read_cons, ih]
    by_cases h : i = k
    · simp [h]
    · by_cases hk : k ≤ i
      · have : i - k = i - (k + 1) + 1 := by omega
        simp [h, hk, show k + 1 ≤ i by omega, this]
      · simp [h, hk, show ¬k + 1 ≤ i by omega]

/-- What a RAM written whole holds. -/
@[simp] theorem Memory.read_ofList (vs : List α) (i : Nat) : (Memory.ofList vs).read i = vs[i]? := by
  simp [Memory.ofList, Memory.read_ofListFrom]

/-! ### Reading many elements -/

theorem collect_ok_iff {f : Nat → Option α} {is : List Nat} {vs : List α} :
    collect f is = .ok vs ↔ is.map f = vs.map some := by
  induction is generalizing vs with
  | nil => cases vs <;> simp [collect]
  | cons i is ih =>
    cases hf : f i with
    | none => cases vs <;> simp [collect, hf]
    | some u =>
      cases hc : collect f is with
      | error e =>
        have : ∀ ws : List α, is.map f ≠ ws.map some := fun ws h => by simpa [hc] using ih.2 h
        cases vs with
        | nil => simp [collect, hf, hc]
        | cons v vs => simp [collect, hf, hc, this vs]
      | ok ws =>
        have := (ih (vs := ws)).1 hc
        cases vs with
        | nil => simp [collect, hf, hc]
        | cons v vs =>
          simp only [collect, hf, hc, Except.ok.injEq, List.cons.injEq, List.map_cons, Option.some.injEq, this,
            and_congr_right_iff]
          intro _
          exact ⟨fun h => h ▸ rfl, fun h => List.map_injective_iff.2 (Option.some_injective α) h⟩

/-- The elements below n read as `vs` exactly when there are n of them and each is the one its mark vouches for. -/
theorem Memory.readEach_range_ok_iff {m : Memory α} {n : Nat} {vs : List α} :
    m.readEach (List.range n) = .ok vs ↔ vs.length = n ∧ ∀ i, i < n → m.read i = vs[i]? := by
  rw [Memory.readEach, collect_ok_iff]
  constructor
  · intro h
    have hl : vs.length = n := by simpa using (congrArg List.length h).symm
    refine ⟨hl, fun i hi => ?_⟩
    have := congrArg (·[i]?) h
    simpa [List.getElem?_range hi, List.getElem?_eq_getElem (show i < vs.length by omega)] using this
  · rintro ⟨hl, h⟩
    refine List.ext_getElem? fun i => ?_
    by_cases hi : i < n
    · simp [List.getElem?_range hi, h i hi, List.getElem?_eq_getElem (show i < vs.length by omega)]
    · simp [show n ≤ i by omega, show vs.length ≤ i by omega]

theorem collect_error_iff {f : Nat → Option α} {is : List Nat} {e : Nat} :
    collect f is = .error e ↔ ∃ pre post, is = pre ++ e :: post ∧ f e = none ∧ ∀ i ∈ pre, (f i).isSome = true := by
  induction is with
  | nil => simp [collect]
  | cons i is ih =>
    cases hf : f i with
    | none =>
      constructor
      · intro h
        obtain rfl : i = e := by simpa [collect, hf] using h
        exact ⟨[], is, rfl, hf, by simp⟩
      · rintro ⟨pre, post, h, he, hpre⟩
        cases pre with
        | nil => obtain ⟨rfl, rfl⟩ := List.cons.inj h; simp [collect, hf]
        | cons j pre =>
          obtain ⟨rfl, rfl⟩ := List.cons.inj h
          simpa [hf] using hpre i (by simp)
    | some u =>
      have : collect f (i :: is) = .error e ↔ collect f is = .error e := by
        cases hc : collect f is <;> simp [collect, hf, hc]
      rw [this, ih]
      constructor
      · rintro ⟨pre, post, rfl, he, hpre⟩
        exact ⟨i :: pre, post, rfl, he, by simpa [hf] using hpre⟩
      · rintro ⟨pre, post, h, he, hpre⟩
        cases pre with
        | nil => obtain ⟨rfl, rfl⟩ := List.cons.inj h; simp [hf] at he
        | cons j pre =>
          obtain ⟨rfl, rfl⟩ := List.cons.inj h
          exact ⟨pre, post, rfl, he, fun k hk => hpre k (by simp [hk])⟩

/-- Reading the elements below n fails at e exactly when e is the least of them whose mark is clear. -/
theorem Memory.readEach_range_error_iff {m : Memory α} {n e : Nat} :
    m.readEach (List.range n) = .error e ↔ e < n ∧ m.read e = none ∧ ∀ i, i < e → (m.read i).isSome = true := by
  rw [Memory.readEach, collect_error_iff]
  constructor
  · rintro ⟨pre, post, h, he, hpre⟩
    have hlen : pre.length + (post.length + 1) = n := by simpa using (congrArg List.length h).symm
    have hget : ∀ i, i < n → (pre ++ e :: post)[i]? = some i := fun i hi => by simp [← h, List.getElem?_range hi]
    have hp : e = pre.length := by simpa using hget pre.length (by omega)
    refine ⟨by omega, he, fun i hi => hpre i ?_⟩
    have := hget i (by omega)
    rw [List.getElem?_append_left (by omega)] at this
    exact List.mem_of_getElem? this
  · rintro ⟨hn, he, hpre⟩
    refine ⟨List.range e, List.range' (e + 1) (n - e - 1), ?_, he, fun i hi => hpre i (List.mem_range.1 hi)⟩
    have hsplit : n = e + (1 + (n - e - 1)) := by omega
    rw [List.range_eq_range', List.range_eq_range', hsplit, ← List.range'_append_1, Nat.zero_add,
      Nat.add_comm 1, List.range'_succ]
    simp

/-- Written below n is exactly when reading the elements below n answers a list. -/
theorem Memory.exists_readEach_range {m : Memory α} {n : Nat} (h : ∀ i, i < n → (m.read i).isSome = true) :
    ∃ vs, m.readEach (List.range n) = .ok vs := by
  cases hc : m.readEach (List.range n) with
  | ok vs => exact ⟨vs, rfl⟩
  | error e =>
    obtain ⟨he, hnone, -⟩ := Memory.readEach_range_error_iff.1 hc
    simpa [hnone] using h e he

end Sys2Proof.Machine
end

