-- ==== Sys2Proof/Laws/State.lean ====
section
/-! SUPPORT. One lemma per field per update of State and of STATUS, so that no later proof unfolds a record update. -/

namespace Sys2Proof.Machine

/-! ### State.accept -/

@[simp] theorem State.accept_palette (s : State) (w : Word) : (s.accept w).palette = s.palette := rfl
@[simp] theorem State.accept_status (s : State) (w : Word) : (s.accept w).status = s.status.accepted := rfl
@[simp] theorem State.accept_intEn (s : State) (w : Word) : (s.accept w).intEn = s.intEn := rfl
@[simp] theorem State.accept_westEdge (s : State) (w : Word) : (s.accept w).westEdge = s.westEdge := rfl
@[simp] theorem State.accept_rasterW (s : State) (w : Word) : (s.accept w).rasterW = s.rasterW := rfl
@[simp] theorem State.accept_rasterH (s : State) (w : Word) : (s.accept w).rasterH = s.rasterH := rfl
@[simp] theorem State.accept_qRgb (s : State) (w : Word) : (s.accept w).qRgb = s.qRgb := rfl
@[simp] theorem State.accept_qCode (s : State) (w : Word) : (s.accept w).qCode = s.qCode := rfl
@[simp] theorem State.accept_feCmdId (s : State) (w : Word) : (s.accept w).feCmdId = s.feCmdId := rfl
@[simp] theorem State.accept_fePayloadLen (s : State) (w : Word) : (s.accept w).fePayloadLen = s.fePayloadLen := rfl
@[simp] theorem State.accept_feFrameLen (s : State) (w : Word) : (s.accept w).feFrameLen = s.feFrameLen := rfl
@[simp] theorem State.accept_curCmd (s : State) (w : Word) : (s.accept w).curCmd = w := rfl
@[simp] theorem State.accept_src (s : State) (w : Word) : (s.accept w).src = s.src := rfl
@[simp] theorem State.accept_dst (s : State) (w : Word) : (s.accept w).dst = s.dst := rfl
@[simp] theorem State.accept_code (s : State) (w : Word) : (s.accept w).code = s.code := rfl
@[simp] theorem State.accept_pack (s : State) (w : Word) : (s.accept w).pack = s.pack := rfl
@[simp] theorem State.accept_fePayload (s : State) (w : Word) : (s.accept w).fePayload = s.fePayload := rfl
@[simp] theorem State.accept_feFrame (s : State) (w : Word) : (s.accept w).feFrame = s.feFrame := rfl
@[simp] theorem State.accept_acc (s : State) (w : Word) : (s.accept w).acc = s.acc := rfl
@[simp] theorem State.accept_busData (s : State) (w : Word) : (s.accept w).busData = s.busData := rfl
@[simp] theorem State.accept_hostProg (s : State) (w : Word) : (s.accept w).hostProg = s.hostProg := rfl
@[simp] theorem State.accept_turns (s : State) (w : Word) : (s.accept w).turns = s.turns := rfl

/-! ### State.complete -/

@[simp] theorem State.complete_palette (s : State) : (s.complete).palette = s.palette := rfl
@[simp] theorem State.complete_status (s : State) : (s.complete).status = s.status.completed := rfl
@[simp] theorem State.complete_intEn (s : State) : (s.complete).intEn = s.intEn := rfl
@[simp] theorem State.complete_westEdge (s : State) : (s.complete).westEdge = s.westEdge := rfl
@[simp] theorem State.complete_rasterW (s : State) : (s.complete).rasterW = s.rasterW := rfl
@[simp] theorem State.complete_rasterH (s : State) : (s.complete).rasterH = s.rasterH := rfl
@[simp] theorem State.complete_qRgb (s : State) : (s.complete).qRgb = s.qRgb := rfl
@[simp] theorem State.complete_qCode (s : State) : (s.complete).qCode = s.qCode := rfl
@[simp] theorem State.complete_feCmdId (s : State) : (s.complete).feCmdId = s.feCmdId := rfl
@[simp] theorem State.complete_fePayloadLen (s : State) : (s.complete).fePayloadLen = s.fePayloadLen := rfl
@[simp] theorem State.complete_feFrameLen (s : State) : (s.complete).feFrameLen = s.feFrameLen := rfl
@[simp] theorem State.complete_curCmd (s : State) : (s.complete).curCmd = s.curCmd := rfl
@[simp] theorem State.complete_src (s : State) : (s.complete).src = s.src := rfl
@[simp] theorem State.complete_dst (s : State) : (s.complete).dst = s.dst := rfl
@[simp] theorem State.complete_code (s : State) : (s.complete).code = s.code := rfl
@[simp] theorem State.complete_pack (s : State) : (s.complete).pack = s.pack := rfl
@[simp] theorem State.complete_fePayload (s : State) : (s.complete).fePayload = s.fePayload := rfl
@[simp] theorem State.complete_feFrame (s : State) : (s.complete).feFrame = s.feFrame := rfl
@[simp] theorem State.complete_acc (s : State) : (s.complete).acc = s.acc := rfl
@[simp] theorem State.complete_busData (s : State) : (s.complete).busData = s.busData := rfl
@[simp] theorem State.complete_hostProg (s : State) : (s.complete).hostProg = s.hostProg := rfl
@[simp] theorem State.complete_turns (s : State) : (s.complete).turns = s.turns := rfl

/-! ### State.raiseError -/

@[simp] theorem State.raiseError_palette (s : State) (c : ErrCode) : (s.raiseError c).palette = s.palette := rfl
@[simp] theorem State.raiseError_status (s : State) (c : ErrCode) : (s.raiseError c).status = s.status.failed c := rfl
@[simp] theorem State.raiseError_intEn (s : State) (c : ErrCode) : (s.raiseError c).intEn = s.intEn := rfl
@[simp] theorem State.raiseError_westEdge (s : State) (c : ErrCode) : (s.raiseError c).westEdge = s.westEdge := rfl
@[simp] theorem State.raiseError_rasterW (s : State) (c : ErrCode) : (s.raiseError c).rasterW = s.rasterW := rfl
@[simp] theorem State.raiseError_rasterH (s : State) (c : ErrCode) : (s.raiseError c).rasterH = s.rasterH := rfl
@[simp] theorem State.raiseError_qRgb (s : State) (c : ErrCode) : (s.raiseError c).qRgb = s.qRgb := rfl
@[simp] theorem State.raiseError_qCode (s : State) (c : ErrCode) : (s.raiseError c).qCode = s.qCode := rfl
@[simp] theorem State.raiseError_feCmdId (s : State) (c : ErrCode) : (s.raiseError c).feCmdId = s.feCmdId := rfl
@[simp] theorem State.raiseError_fePayloadLen (s : State) (c : ErrCode) : (s.raiseError c).fePayloadLen = s.fePayloadLen := rfl
@[simp] theorem State.raiseError_feFrameLen (s : State) (c : ErrCode) : (s.raiseError c).feFrameLen = s.feFrameLen := rfl
@[simp] theorem State.raiseError_curCmd (s : State) (c : ErrCode) : (s.raiseError c).curCmd = s.curCmd := rfl
@[simp] theorem State.raiseError_src (s : State) (c : ErrCode) : (s.raiseError c).src = s.src := rfl
@[simp] theorem State.raiseError_dst (s : State) (c : ErrCode) : (s.raiseError c).dst = s.dst := rfl
@[simp] theorem State.raiseError_code (s : State) (c : ErrCode) : (s.raiseError c).code = s.code := rfl
@[simp] theorem State.raiseError_pack (s : State) (c : ErrCode) : (s.raiseError c).pack = s.pack := rfl
@[simp] theorem State.raiseError_fePayload (s : State) (c : ErrCode) : (s.raiseError c).fePayload = s.fePayload := rfl
@[simp] theorem State.raiseError_feFrame (s : State) (c : ErrCode) : (s.raiseError c).feFrame = s.feFrame := rfl
@[simp] theorem State.raiseError_acc (s : State) (c : ErrCode) : (s.raiseError c).acc = s.acc := rfl
@[simp] theorem State.raiseError_busData (s : State) (c : ErrCode) : (s.raiseError c).busData = s.busData := rfl
@[simp] theorem State.raiseError_hostProg (s : State) (c : ErrCode) : (s.raiseError c).hostProg = s.hostProg := rfl
@[simp] theorem State.raiseError_turns (s : State) (c : ErrCode) : (s.raiseError c).turns = s.turns := rfl

/-! ### State.acknowledge -/

@[simp] theorem State.acknowledge_palette (s : State) (v : Word) : (s.acknowledge v).palette = s.palette := rfl
@[simp] theorem State.acknowledge_status (s : State) (v : Word) : (s.acknowledge v).status = s.status.writeOneToClear v := rfl
@[simp] theorem State.acknowledge_intEn (s : State) (v : Word) : (s.acknowledge v).intEn = s.intEn := rfl
@[simp] theorem State.acknowledge_westEdge (s : State) (v : Word) : (s.acknowledge v).westEdge = s.westEdge := rfl
@[simp] theorem State.acknowledge_rasterW (s : State) (v : Word) : (s.acknowledge v).rasterW = s.rasterW := rfl
@[simp] theorem State.acknowledge_rasterH (s : State) (v : Word) : (s.acknowledge v).rasterH = s.rasterH := rfl
@[simp] theorem State.acknowledge_qRgb (s : State) (v : Word) : (s.acknowledge v).qRgb = s.qRgb := rfl
@[simp] theorem State.acknowledge_qCode (s : State) (v : Word) : (s.acknowledge v).qCode = s.qCode := rfl
@[simp] theorem State.acknowledge_feCmdId (s : State) (v : Word) : (s.acknowledge v).feCmdId = s.feCmdId := rfl
@[simp] theorem State.acknowledge_fePayloadLen (s : State) (v : Word) : (s.acknowledge v).fePayloadLen = s.fePayloadLen := rfl
@[simp] theorem State.acknowledge_feFrameLen (s : State) (v : Word) : (s.acknowledge v).feFrameLen = s.feFrameLen := rfl
@[simp] theorem State.acknowledge_curCmd (s : State) (v : Word) : (s.acknowledge v).curCmd = s.curCmd := rfl
@[simp] theorem State.acknowledge_src (s : State) (v : Word) : (s.acknowledge v).src = s.src := rfl
@[simp] theorem State.acknowledge_dst (s : State) (v : Word) : (s.acknowledge v).dst = s.dst := rfl
@[simp] theorem State.acknowledge_code (s : State) (v : Word) : (s.acknowledge v).code = s.code := rfl
@[simp] theorem State.acknowledge_pack (s : State) (v : Word) : (s.acknowledge v).pack = s.pack := rfl
@[simp] theorem State.acknowledge_fePayload (s : State) (v : Word) : (s.acknowledge v).fePayload = s.fePayload := rfl
@[simp] theorem State.acknowledge_feFrame (s : State) (v : Word) : (s.acknowledge v).feFrame = s.feFrame := rfl
@[simp] theorem State.acknowledge_acc (s : State) (v : Word) : (s.acknowledge v).acc = s.acc := rfl
@[simp] theorem State.acknowledge_busData (s : State) (v : Word) : (s.acknowledge v).busData = s.busData := rfl
@[simp] theorem State.acknowledge_hostProg (s : State) (v : Word) : (s.acknowledge v).hostProg = s.hostProg := rfl
@[simp] theorem State.acknowledge_turns (s : State) (v : Word) : (s.acknowledge v).turns = s.turns := rfl

/-! ### State.returnWord -/

@[simp] theorem State.returnWord_palette (s : State) (v : Word) : (s.returnWord v).palette = s.palette := rfl
@[simp] theorem State.returnWord_status (s : State) (v : Word) : (s.returnWord v).status = s.status := rfl
@[simp] theorem State.returnWord_intEn (s : State) (v : Word) : (s.returnWord v).intEn = s.intEn := rfl
@[simp] theorem State.returnWord_westEdge (s : State) (v : Word) : (s.returnWord v).westEdge = s.westEdge := rfl
@[simp] theorem State.returnWord_rasterW (s : State) (v : Word) : (s.returnWord v).rasterW = s.rasterW := rfl
@[simp] theorem State.returnWord_rasterH (s : State) (v : Word) : (s.returnWord v).rasterH = s.rasterH := rfl
@[simp] theorem State.returnWord_qRgb (s : State) (v : Word) : (s.returnWord v).qRgb = s.qRgb := rfl
@[simp] theorem State.returnWord_qCode (s : State) (v : Word) : (s.returnWord v).qCode = s.qCode := rfl
@[simp] theorem State.returnWord_feCmdId (s : State) (v : Word) : (s.returnWord v).feCmdId = s.feCmdId := rfl
@[simp] theorem State.returnWord_fePayloadLen (s : State) (v : Word) : (s.returnWord v).fePayloadLen = s.fePayloadLen := rfl
@[simp] theorem State.returnWord_feFrameLen (s : State) (v : Word) : (s.returnWord v).feFrameLen = s.feFrameLen := rfl
@[simp] theorem State.returnWord_curCmd (s : State) (v : Word) : (s.returnWord v).curCmd = s.curCmd := rfl
@[simp] theorem State.returnWord_src (s : State) (v : Word) : (s.returnWord v).src = s.src := rfl
@[simp] theorem State.returnWord_dst (s : State) (v : Word) : (s.returnWord v).dst = s.dst := rfl
@[simp] theorem State.returnWord_code (s : State) (v : Word) : (s.returnWord v).code = s.code := rfl
@[simp] theorem State.returnWord_pack (s : State) (v : Word) : (s.returnWord v).pack = s.pack := rfl
@[simp] theorem State.returnWord_fePayload (s : State) (v : Word) : (s.returnWord v).fePayload = s.fePayload := rfl
@[simp] theorem State.returnWord_feFrame (s : State) (v : Word) : (s.returnWord v).feFrame = s.feFrame := rfl
@[simp] theorem State.returnWord_acc (s : State) (v : Word) : (s.returnWord v).acc = s.acc := rfl
@[simp] theorem State.returnWord_busData (s : State) (v : Word) : (s.returnWord v).busData = some v := rfl
@[simp] theorem State.returnWord_hostProg (s : State) (v : Word) : (s.returnWord v).hostProg = s.hostProg := rfl
@[simp] theorem State.returnWord_turns (s : State) (v : Word) : (s.returnWord v).turns = s.turns := rfl

/-! ### State.returnNothing -/

@[simp] theorem State.returnNothing_palette (s : State) : (s.returnNothing).palette = s.palette := rfl
@[simp] theorem State.returnNothing_status (s : State) : (s.returnNothing).status = s.status := rfl
@[simp] theorem State.returnNothing_intEn (s : State) : (s.returnNothing).intEn = s.intEn := rfl
@[simp] theorem State.returnNothing_westEdge (s : State) : (s.returnNothing).westEdge = s.westEdge := rfl
@[simp] theorem State.returnNothing_rasterW (s : State) : (s.returnNothing).rasterW = s.rasterW := rfl
@[simp] theorem State.returnNothing_rasterH (s : State) : (s.returnNothing).rasterH = s.rasterH := rfl
@[simp] theorem State.returnNothing_qRgb (s : State) : (s.returnNothing).qRgb = s.qRgb := rfl
@[simp] theorem State.returnNothing_qCode (s : State) : (s.returnNothing).qCode = s.qCode := rfl
@[simp] theorem State.returnNothing_feCmdId (s : State) : (s.returnNothing).feCmdId = s.feCmdId := rfl
@[simp] theorem State.returnNothing_fePayloadLen (s : State) : (s.returnNothing).fePayloadLen = s.fePayloadLen := rfl
@[simp] theorem State.returnNothing_feFrameLen (s : State) : (s.returnNothing).feFrameLen = s.feFrameLen := rfl
@[simp] theorem State.returnNothing_curCmd (s : State) : (s.returnNothing).curCmd = s.curCmd := rfl
@[simp] theorem State.returnNothing_src (s : State) : (s.returnNothing).src = s.src := rfl
@[simp] theorem State.returnNothing_dst (s : State) : (s.returnNothing).dst = s.dst := rfl
@[simp] theorem State.returnNothing_code (s : State) : (s.returnNothing).code = s.code := rfl
@[simp] theorem State.returnNothing_pack (s : State) : (s.returnNothing).pack = s.pack := rfl
@[simp] theorem State.returnNothing_fePayload (s : State) : (s.returnNothing).fePayload = s.fePayload := rfl
@[simp] theorem State.returnNothing_feFrame (s : State) : (s.returnNothing).feFrame = s.feFrame := rfl
@[simp] theorem State.returnNothing_acc (s : State) : (s.returnNothing).acc = s.acc := rfl
@[simp] theorem State.returnNothing_busData (s : State) : (s.returnNothing).busData = none := rfl
@[simp] theorem State.returnNothing_hostProg (s : State) : (s.returnNothing).hostProg = s.hostProg := rfl
@[simp] theorem State.returnNothing_turns (s : State) : (s.returnNothing).turns = s.turns := rfl

/-! ### State.rejectRead -/

@[simp] theorem State.rejectRead_palette (s : State) : (s.rejectRead).palette = s.palette := rfl
@[simp] theorem State.rejectRead_status (s : State) : (s.rejectRead).status = s.status.rejected := rfl
@[simp] theorem State.rejectRead_intEn (s : State) : (s.rejectRead).intEn = s.intEn := rfl
@[simp] theorem State.rejectRead_westEdge (s : State) : (s.rejectRead).westEdge = s.westEdge := rfl
@[simp] theorem State.rejectRead_rasterW (s : State) : (s.rejectRead).rasterW = s.rasterW := rfl
@[simp] theorem State.rejectRead_rasterH (s : State) : (s.rejectRead).rasterH = s.rasterH := rfl
@[simp] theorem State.rejectRead_qRgb (s : State) : (s.rejectRead).qRgb = s.qRgb := rfl
@[simp] theorem State.rejectRead_qCode (s : State) : (s.rejectRead).qCode = s.qCode := rfl
@[simp] theorem State.rejectRead_feCmdId (s : State) : (s.rejectRead).feCmdId = s.feCmdId := rfl
@[simp] theorem State.rejectRead_fePayloadLen (s : State) : (s.rejectRead).fePayloadLen = s.fePayloadLen := rfl
@[simp] theorem State.rejectRead_feFrameLen (s : State) : (s.rejectRead).feFrameLen = s.feFrameLen := rfl
@[simp] theorem State.rejectRead_curCmd (s : State) : (s.rejectRead).curCmd = s.curCmd := rfl
@[simp] theorem State.rejectRead_src (s : State) : (s.rejectRead).src = s.src := rfl
@[simp] theorem State.rejectRead_dst (s : State) : (s.rejectRead).dst = s.dst := rfl
@[simp] theorem State.rejectRead_code (s : State) : (s.rejectRead).code = s.code := rfl
@[simp] theorem State.rejectRead_pack (s : State) : (s.rejectRead).pack = s.pack := rfl
@[simp] theorem State.rejectRead_fePayload (s : State) : (s.rejectRead).fePayload = s.fePayload := rfl
@[simp] theorem State.rejectRead_feFrame (s : State) : (s.rejectRead).feFrame = s.feFrame := rfl
@[simp] theorem State.rejectRead_acc (s : State) : (s.rejectRead).acc = s.acc := rfl
@[simp] theorem State.rejectRead_busData (s : State) : (s.rejectRead).busData = some 0 := rfl
@[simp] theorem State.rejectRead_hostProg (s : State) : (s.rejectRead).hostProg = s.hostProg := rfl
@[simp] theorem State.rejectRead_turns (s : State) : (s.rejectRead).turns = s.turns := rfl

/-! ### State.rejectWrite -/

@[simp] theorem State.rejectWrite_palette (s : State) : (s.rejectWrite).palette = s.palette := rfl
@[simp] theorem State.rejectWrite_status (s : State) : (s.rejectWrite).status = s.status.rejected := rfl
@[simp] theorem State.rejectWrite_intEn (s : State) : (s.rejectWrite).intEn = s.intEn := rfl
@[simp] theorem State.rejectWrite_westEdge (s : State) : (s.rejectWrite).westEdge = s.westEdge := rfl
@[simp] theorem State.rejectWrite_rasterW (s : State) : (s.rejectWrite).rasterW = s.rasterW := rfl
@[simp] theorem State.rejectWrite_rasterH (s : State) : (s.rejectWrite).rasterH = s.rasterH := rfl
@[simp] theorem State.rejectWrite_qRgb (s : State) : (s.rejectWrite).qRgb = s.qRgb := rfl
@[simp] theorem State.rejectWrite_qCode (s : State) : (s.rejectWrite).qCode = s.qCode := rfl
@[simp] theorem State.rejectWrite_feCmdId (s : State) : (s.rejectWrite).feCmdId = s.feCmdId := rfl
@[simp] theorem State.rejectWrite_fePayloadLen (s : State) : (s.rejectWrite).fePayloadLen = s.fePayloadLen := rfl
@[simp] theorem State.rejectWrite_feFrameLen (s : State) : (s.rejectWrite).feFrameLen = s.feFrameLen := rfl
@[simp] theorem State.rejectWrite_curCmd (s : State) : (s.rejectWrite).curCmd = s.curCmd := rfl
@[simp] theorem State.rejectWrite_src (s : State) : (s.rejectWrite).src = s.src := rfl
@[simp] theorem State.rejectWrite_dst (s : State) : (s.rejectWrite).dst = s.dst := rfl
@[simp] theorem State.rejectWrite_code (s : State) : (s.rejectWrite).code = s.code := rfl
@[simp] theorem State.rejectWrite_pack (s : State) : (s.rejectWrite).pack = s.pack := rfl
@[simp] theorem State.rejectWrite_fePayload (s : State) : (s.rejectWrite).fePayload = s.fePayload := rfl
@[simp] theorem State.rejectWrite_feFrame (s : State) : (s.rejectWrite).feFrame = s.feFrame := rfl
@[simp] theorem State.rejectWrite_acc (s : State) : (s.rejectWrite).acc = s.acc := rfl
@[simp] theorem State.rejectWrite_busData (s : State) : (s.rejectWrite).busData = none := rfl
@[simp] theorem State.rejectWrite_hostProg (s : State) : (s.rejectWrite).hostProg = s.hostProg := rfl
@[simp] theorem State.rejectWrite_turns (s : State) : (s.rejectWrite).turns = s.turns := rfl

/-! ### State.popTurn -/

@[simp] theorem State.popTurn_palette (s : State) : (s.popTurn).palette = s.palette := rfl
@[simp] theorem State.popTurn_status (s : State) : (s.popTurn).status = s.status := rfl
@[simp] theorem State.popTurn_intEn (s : State) : (s.popTurn).intEn = s.intEn := rfl
@[simp] theorem State.popTurn_westEdge (s : State) : (s.popTurn).westEdge = s.westEdge := rfl
@[simp] theorem State.popTurn_rasterW (s : State) : (s.popTurn).rasterW = s.rasterW := rfl
@[simp] theorem State.popTurn_rasterH (s : State) : (s.popTurn).rasterH = s.rasterH := rfl
@[simp] theorem State.popTurn_qRgb (s : State) : (s.popTurn).qRgb = s.qRgb := rfl
@[simp] theorem State.popTurn_qCode (s : State) : (s.popTurn).qCode = s.qCode := rfl
@[simp] theorem State.popTurn_feCmdId (s : State) : (s.popTurn).feCmdId = s.feCmdId := rfl
@[simp] theorem State.popTurn_fePayloadLen (s : State) : (s.popTurn).fePayloadLen = s.fePayloadLen := rfl
@[simp] theorem State.popTurn_feFrameLen (s : State) : (s.popTurn).feFrameLen = s.feFrameLen := rfl
@[simp] theorem State.popTurn_curCmd (s : State) : (s.popTurn).curCmd = s.curCmd := rfl
@[simp] theorem State.popTurn_src (s : State) : (s.popTurn).src = s.src := rfl
@[simp] theorem State.popTurn_dst (s : State) : (s.popTurn).dst = s.dst := rfl
@[simp] theorem State.popTurn_code (s : State) : (s.popTurn).code = s.code := rfl
@[simp] theorem State.popTurn_pack (s : State) : (s.popTurn).pack = s.pack := rfl
@[simp] theorem State.popTurn_fePayload (s : State) : (s.popTurn).fePayload = s.fePayload := rfl
@[simp] theorem State.popTurn_feFrame (s : State) : (s.popTurn).feFrame = s.feFrame := rfl
@[simp] theorem State.popTurn_acc (s : State) : (s.popTurn).acc = s.acc := rfl
@[simp] theorem State.popTurn_busData (s : State) : (s.popTurn).busData = s.busData := rfl
@[simp] theorem State.popTurn_hostProg (s : State) : (s.popTurn).hostProg = s.hostProg := rfl
@[simp] theorem State.popTurn_turns (s : State) : (s.popTurn).turns = s.turns.tail := rfl

/-! ### submitWord -/

@[simp] theorem submitWord_palette (w : Word) (s : State) : (submitWord w s).palette = s.palette := rfl
@[simp] theorem submitWord_status (w : Word) (s : State) : (submitWord w s).status = s.status.accepted := rfl
@[simp] theorem submitWord_intEn (w : Word) (s : State) : (submitWord w s).intEn = s.intEn := rfl
@[simp] theorem submitWord_westEdge (w : Word) (s : State) : (submitWord w s).westEdge = s.westEdge := rfl
@[simp] theorem submitWord_rasterW (w : Word) (s : State) : (submitWord w s).rasterW = s.rasterW := rfl
@[simp] theorem submitWord_rasterH (w : Word) (s : State) : (submitWord w s).rasterH = s.rasterH := rfl
@[simp] theorem submitWord_qRgb (w : Word) (s : State) : (submitWord w s).qRgb = s.qRgb := rfl
@[simp] theorem submitWord_qCode (w : Word) (s : State) : (submitWord w s).qCode = s.qCode := rfl
@[simp] theorem submitWord_feCmdId (w : Word) (s : State) : (submitWord w s).feCmdId = s.feCmdId := rfl
@[simp] theorem submitWord_fePayloadLen (w : Word) (s : State) : (submitWord w s).fePayloadLen = s.fePayloadLen := rfl
@[simp] theorem submitWord_feFrameLen (w : Word) (s : State) : (submitWord w s).feFrameLen = s.feFrameLen := rfl
@[simp] theorem submitWord_curCmd (w : Word) (s : State) : (submitWord w s).curCmd = w := rfl
@[simp] theorem submitWord_src (w : Word) (s : State) : (submitWord w s).src = s.src := rfl
@[simp] theorem submitWord_dst (w : Word) (s : State) : (submitWord w s).dst = s.dst := rfl
@[simp] theorem submitWord_code (w : Word) (s : State) : (submitWord w s).code = s.code := rfl
@[simp] theorem submitWord_pack (w : Word) (s : State) : (submitWord w s).pack = s.pack := rfl
@[simp] theorem submitWord_fePayload (w : Word) (s : State) : (submitWord w s).fePayload = s.fePayload := rfl
@[simp] theorem submitWord_feFrame (w : Word) (s : State) : (submitWord w s).feFrame = s.feFrame := rfl
@[simp] theorem submitWord_acc (w : Word) (s : State) : (submitWord w s).acc = s.acc := rfl
@[simp] theorem submitWord_busData (w : Word) (s : State) : (submitWord w s).busData = s.busData := rfl
@[simp] theorem submitWord_hostProg (w : Word) (s : State) : (submitWord w s).hostProg = s.hostProg := rfl
@[simp] theorem submitWord_turns (w : Word) (s : State) : (submitWord w s).turns = .engine :: s.turns := rfl

/-! ### The flags -/

@[simp] theorem Status.accepted_busy (f : Status) : (f.accepted).busy = true := rfl
@[simp] theorem Status.accepted_done (f : Status) : (f.accepted).done = false := rfl
@[simp] theorem Status.accepted_err (f : Status) : (f.accepted).err = false := rfl
@[simp] theorem Status.accepted_accessErr (f : Status) : (f.accepted).accessErr = f.accessErr := rfl
@[simp] theorem Status.accepted_errCode (f : Status) : (f.accepted).errCode = .none := rfl

@[simp] theorem Status.completed_busy (f : Status) : (f.completed).busy = false := rfl
@[simp] theorem Status.completed_done (f : Status) : (f.completed).done = true := rfl
@[simp] theorem Status.completed_err (f : Status) : (f.completed).err = f.err := rfl
@[simp] theorem Status.completed_accessErr (f : Status) : (f.completed).accessErr = f.accessErr := rfl
@[simp] theorem Status.completed_errCode (f : Status) : (f.completed).errCode = f.errCode := rfl

@[simp] theorem Status.failed_busy (f : Status) (c : ErrCode) : (f.failed c).busy = false := rfl
@[simp] theorem Status.failed_done (f : Status) (c : ErrCode) : (f.failed c).done = f.done := rfl
@[simp] theorem Status.failed_err (f : Status) (c : ErrCode) : (f.failed c).err = true := rfl
@[simp] theorem Status.failed_accessErr (f : Status) (c : ErrCode) : (f.failed c).accessErr = f.accessErr := rfl
@[simp] theorem Status.failed_errCode (f : Status) (c : ErrCode) : (f.failed c).errCode = c := rfl

@[simp] theorem Status.rejected_busy (f : Status) : (f.rejected).busy = f.busy := rfl
@[simp] theorem Status.rejected_done (f : Status) : (f.rejected).done = f.done := rfl
@[simp] theorem Status.rejected_err (f : Status) : (f.rejected).err = f.err := rfl
@[simp] theorem Status.rejected_accessErr (f : Status) : (f.rejected).accessErr = true := rfl
@[simp] theorem Status.rejected_errCode (f : Status) : (f.rejected).errCode = f.errCode := rfl

@[simp] theorem Status.writeOneToClear_busy (f : Status) (v : Word) : (f.writeOneToClear v).busy = f.busy := rfl
@[simp] theorem Status.writeOneToClear_done (f : Status) (v : Word) : (f.writeOneToClear v).done = (f.done && !v.getLsbD 1) := rfl
@[simp] theorem Status.writeOneToClear_err (f : Status) (v : Word) : (f.writeOneToClear v).err = (f.err && !v.getLsbD 2) := rfl
@[simp] theorem Status.writeOneToClear_accessErr (f : Status) (v : Word) : (f.writeOneToClear v).accessErr = (f.accessErr && !v.getLsbD 3) := rfl
@[simp] theorem Status.writeOneToClear_errCode (f : Status) (v : Word) : (f.writeOneToClear v).errCode = if v.getLsbD 2 then .none else f.errCode := rfl

end Sys2Proof.Machine
end

