-- ==== Sys2Proof/Laws/Commands.lean ====
section
/-! SUPPORT. For each operand read and each command one lemma that says everything it can answer. -/

namespace Sys2Proof.Machine

theorem srcOperand_ok_iff {s : State} {raster : List Rgb} :
    s.srcOperand = .ok raster ↔
      raster.length = Config.pixels ∧ ∀ p, p < Config.pixels → s.src.read p = raster[p]? :=
  Memory.readEach_range_ok_iff

theorem codeOperand_ok_iff {s : State} {codes : List Code} :
    s.codeOperand = .ok codes ↔
      codes.length = Config.pixels ∧ ∀ p, p < Config.pixels → s.code.read p = codes[p]? :=
  Memory.readEach_range_ok_iff

theorem payloadOperand_ok_iff {s : State} {payload : List Byte} :
    s.payloadOperand = .ok payload ↔
      payload.length = s.payloadLen ∧ ∀ k, k < s.payloadLen → s.fePayload.read k = payload[k]? :=
  Memory.readEach_range_ok_iff

theorem srcOperand_error_iff {s : State} {e : Nat} :
    s.srcOperand = .error e ↔
      e < Config.pixels ∧ s.src.read e = none ∧ ∀ i, i < e → (s.src.read i).isSome = true :=
  Memory.readEach_range_error_iff

theorem codeOperand_error_iff {s : State} {e : Nat} :
    s.codeOperand = .error e ↔
      e < Config.pixels ∧ s.code.read e = none ∧ ∀ i, i < e → (s.code.read i).isSome = true :=
  Memory.readEach_range_error_iff

theorem payloadOperand_error_iff {s : State} {e : Nat} :
    s.payloadOperand = .error e ↔
      e < s.payloadLen ∧ s.fePayload.read e = none ∧ ∀ i, i < e → (s.fePayload.read i).isSome = true :=
  Memory.readEach_range_error_iff

/-- Everything DITHER can answer. -/
theorem execDither_cases (s : State) :
    (s.dimensionsOk = false ∧ execDither s = .next (s.raiseError .dimensionMismatch)) ∨
    (s.dimensionsOk = true ∧ ∃ raster, s.srcOperand = .ok raster ∧
      execDither s = .next (ditherRaster raster s).complete) ∨
    (s.dimensionsOk = true ∧ ∃ p, s.srcOperand = .error p ∧ execDither s = .fault (.unwrittenRead .src p)) := by
  cases hd : s.dimensionsOk with
  | false => exact .inl ⟨rfl, by simp [execDither, hd]⟩
  | true =>
    cases hs : s.srcOperand with
    | ok raster => exact .inr (.inl ⟨rfl, raster, rfl, by simp [execDither, hd, hs]⟩)
    | error p => exact .inr (.inr ⟨rfl, p, rfl, by simp [execDither, hd, hs]⟩)

/-- Everything PACK can answer. -/
theorem execPack_cases (s : State) :
    (s.dimensionsOk = false ∧ execPack s = .next (s.raiseError .dimensionMismatch)) ∨
    (s.dimensionsOk = true ∧ ∃ codes, s.codeOperand = .ok codes ∧
      execPack s = .next { s with pack := Memory.ofList (packRaster codes).toList }.complete) ∨
    (s.dimensionsOk = true ∧ ∃ p, s.codeOperand = .error p ∧ execPack s = .fault (.unwrittenRead .code p)) := by
  cases hd : s.dimensionsOk with
  | false => exact .inl ⟨rfl, by simp [execPack, hd]⟩
  | true =>
    cases hs : s.codeOperand with
    | ok codes => exact .inr (.inl ⟨rfl, codes, rfl, by simp [execPack, hd, hs]⟩)
    | error p => exact .inr (.inr ⟨rfl, p, rfl, by simp [execPack, hd, hs]⟩)

/-- Everything ENCODE_FRAME can answer. -/
theorem execEncodeFrame_cases (s : State) :
    (s.payloadTooLarge = true ∧
      execEncodeFrame s = .next ({ s with feFrameLen := 0 }.raiseError .payloadTooLarge)) ∨
    (s.payloadTooLarge = false ∧ ∃ payload, s.payloadOperand = .ok payload ∧
      execEncodeFrame s = .next { s with
        feFrame := Memory.ofList (frameBuffer s.feCmdId payload)
        feFrameLen := BitVec.ofNat 9 (s.payloadLen + 4) }.complete) ∨
    (s.payloadTooLarge = false ∧ ∃ k, s.payloadOperand = .error k ∧
      execEncodeFrame s = .fault (.unwrittenRead .fePayload k)) := by
  cases hd : s.payloadTooLarge with
  | true => exact .inl ⟨rfl, by simp [execEncodeFrame, hd]⟩
  | false =>
    cases hs : s.payloadOperand with
    | ok payload => exact .inr (.inl ⟨rfl, payload, rfl, by simp [execEncodeFrame, hd, hs]⟩)
    | error k => exact .inr (.inr ⟨rfl, k, rfl, by simp [execEncodeFrame, hd, hs]⟩)

/-! ### Sizes -/

theorem putCode_size (buf : Array Byte) (i : Nat) (c : Code) : (putCode buf i c).size = buf.size := by
  simp [putCode]

theorem foldl_size {α β : Type} (f : Array α → β → Array α) (h : ∀ a b, (f a b).size = a.size) (l : List β)
    (a : Array α) : (l.foldl f a).size = a.size := by
  induction l generalizing a with
  | nil => rfl
  | cons b l ih => rw [List.foldl_cons, ih, h]

theorem packRow_size (codes : Array Code) (buf : Array Byte) (row : Nat) :
    (packRow codes buf row).size = buf.size :=
  foldl_size _ (fun _ _ => putCode_size _ _ _) _ _

/-- PACK writes 7750 bytes, regardless of content. -/
theorem packRaster_size (codes : List Code) : (packRaster codes).size = Config.packedBytes := by
  rw [packRaster, foldl_size _ (fun _ _ => packRow_size _ _ _), Array.size_replicate]

theorem frameOf_length (cmd : Byte) (payload : List Byte) :
    (frameOf cmd payload).length = payload.length + 4 := by
  simp [frameOf]

theorem frameBuffer_length {cmd : Byte} {payload : List Byte} (h : payload.length ≤ 256) :
    (frameBuffer cmd payload).length = Config.frameBytes := by
  simp [frameBuffer, frameOf_length, Config.frameBytes]; omega

end Sys2Proof.Machine
end

