-- ==== Sys2Proof/Laws/PerInstr.lean ====
section
/-! SUPPORT. Statements about every instruction as syntax, one lemma per constructor. -/

namespace Sys2Proof.Laws.CommandWord

/-- A command word has RSVD = 0 and an opcode below 5 (R90, R91). -/
def Statement (i : Instr) : Prop := rsvdField (encode i) = 0 ∧ (opcField (encode i)).toNat < 5

theorem nop : Statement .nop := ⟨by decide, by decide⟩

theorem quantize : Statement .quantize := ⟨by decide, by decide⟩

theorem dither : Statement .dither := ⟨by decide, by decide⟩

theorem pack : Statement .pack := ⟨by decide, by decide⟩

theorem encodeFrame : Statement .encodeFrame := ⟨by decide, by decide⟩

end Sys2Proof.Laws.CommandWord
end

