-- ==== Sys2Proof/Laws/Scan.lean ====
section
/-! SUPPORT. The error-diffusion scan: its arithmetic as floor division, sizes, and what one diffusion changes. -/

namespace Sys2Proof.Machine

theorem contrib_eq (e w : Int) : contrib e w = (e * w + 8) / 16 := by
  simp [contrib, Int.shiftRight_eq_div_pow]

theorem contrib_zero (w : Int) : contrib 0 w = 0 := by
  simp [contrib_eq]

theorem share_zero (w : Int) : share Triple.zero w = Triple.zero := by
  simp [share, Triple.zero, contrib_zero]

@[simp] theorem Triple.add_zero (a : Triple) : a.add Triple.zero = a := by simp [Triple.add, Triple.zero]

@[simp] theorem Triple.zero_add (a : Triple) : Triple.zero.add a = a := by simp [Triple.add, Triple.zero]

theorem Triple.add_comm (a b : Triple) : a.add b = b.add a := by simp [Triple.add, Int.add_comm]

theorem Triple.add_assoc (a b c : Triple) : (a.add b).add c = a.add (b.add c) := by
  simp [Triple.add, Int.add_assoc]

theorem toByte_toNat (a : Int) : ((toByte a).toNat : Int) = min (max a 0) (255 * 256) / 256 := by
  have h : (min (max a 0) (255 * 256)) >>> (8 : Nat) = min (max a 0) (255 * 256) / 256 := by
    simp [Int.shiftRight_eq_div_pow]
  rw [toByte, h, BitVec.toNat_ofInt]
  omega

@[simp] theorem diffuse_size (acc : AccArray) (p : Nat) (e : Triple) (w : Int) :
    Array.size (diffuse acc p e w) = Array.size acc := by
  simp [diffuse]

@[simp] theorem diffuseSouthWest_size (pol : WestEdge) (acc : AccArray) (x y : Nat) (e : Triple) :
    Array.size (diffuseSouthWest pol acc x y e) = Array.size acc := by
  cases pol <;> simp only [diffuseSouthWest] <;> split <;> simp

@[simp] theorem ditherPixel_size (pal : Palette) (pol : WestEdge) (acc : AccArray) (xy : Nat × Nat) :
    Array.size (ditherPixel pal pol acc xy) = Array.size acc := by
  simp [ditherPixel]

theorem scan_size (pal : Palette) (pol : WestEdge) (l : List (Nat × Nat)) (acc : AccArray) :
    Array.size (l.foldl (ditherPixel pal pol) acc) = Array.size acc := by
  induction l generalizing acc with
  | nil => rfl
  | cons xy l ih => rw [List.foldl_cons, ih, ditherPixel_size]

theorem accInit_size (raster : List Rgb) : Array.size (accInit raster) = raster.length := by simp [accInit]

/-- DITHER leaves as many accumulators as the raster has pixels. -/
theorem accFinal_size (pal : Palette) (pol : WestEdge) (raster : List Rgb) :
    Array.size (accFinal pal pol raster) = raster.length := by
  rw [accFinal, scan_size, accInit_size]

theorem diffuse_at (acc : AccArray) (p q : Nat) (e : Triple) (w : Int) (hq : q < Array.size acc) :
    AccArray.at (diffuse acc p e w) q = if q = p then (AccArray.at acc q).add (share e w) else AccArray.at acc q := by
  simp only [AccArray.at, diffuse, Array.getD_eq_getD_getElem?, Array.getElem?_modify]
  by_cases h : p = q
  · simp [h, hq]
  · simp [h, Ne.symm h]

theorem accInit_at {raster : List Rgb} {p : Nat} (h : p < raster.length) :
    AccArray.at (accInit raster) p = pixelQ8 raster[p] := by
  simp [AccArray.at, accInit, h]

end Sys2Proof.Machine
end

