-- ==== Sys2Proof/Laws/Step.lean ====
section
/-! SUPPORT. What the port, the engine and one step can answer. -/

namespace Sys2Proof.Machine

theorem busRead_register {a : Addr} {r : Reg} (s : State) (h : decodeAddress a = .register r) :
    busRead a s = .next (s.returnWord (readReg r s)) := by
  simp [busRead, h]

theorem busRead_element {a : Addr} {w : Window} {k : Nat} (s : State) (h : decodeAddress a = .element w k) :
    busRead a s =
      if s.status.busy then .next s.rejectRead
      else
        match readWindow w k s with
        | .ok v => .next (s.returnWord v)
        | .error f => .fault f := by
  unfold busRead
  rw [h] <;> rfl

/-- Everything a host read that answers a next state can have done: only STATUS.ACCESS_ERR and the returned word change. -/
theorem busRead_next {a : Addr} {s t : State} (h : busRead a s = .next t) :
    t = s.rejectRead ∨ ∃ v, t = s.returnWord v := by
  unfold busRead at h
  split at h
  · exact .inl (Host.Outcome.next.inj h).symm
  · exact .inl (Host.Outcome.next.inj h).symm
  · exact .inr ⟨_, (Host.Outcome.next.inj h).symm⟩
  · split at h
    · exact .inl (Host.Outcome.next.inj h).symm
    · split at h
      · exact .inr ⟨_, (Host.Outcome.next.inj h).symm⟩
      · cases h

/-- Everything a host write can do: it is rejected, or it is an accepted write to a register or to a window. -/
theorem busWrite_cases (a : Addr) (v : Word) (s : State) :
    busWrite a v s = s.rejectWrite ∨
    (∃ r, decodeAddress a = .register r ∧ (s.status.busy = true → frozenWhileBusy r = false) ∧
      busWrite a v s = (writeReg r v s).returnNothing) ∨
    (∃ w k, decodeAddress a = .element w k ∧ s.status.busy = false ∧
      busWrite a v s = (writeWindow w k v s).returnNothing) := by
  unfold busWrite
  split
  · exact .inl rfl
  · exact .inl rfl
  · rename_i r h
    split
    · exact .inl rfl
    · rename_i hb
      exact .inr (.inl ⟨r, h, fun hbusy => by simpa [hbusy] using hb, rfl⟩)
  · rename_i w k h
    split
    · exact .inl rfl
    · rename_i hb
      exact .inr (.inr ⟨w, k, h, by simpa using hb, rfl⟩)

/-- Everything a turn of the host that answers a next state can have done. -/
theorem hostStep_next {s t : State} (h : hostStep s = .next t) :
    (s.hostProg = [] ∧ t = s) ∨
    (∃ a rest, s.hostProg = .read a :: rest ∧ busRead a { s with hostProg := rest } = .next t) ∨
    (∃ a v rest, s.hostProg = .write a v :: rest ∧ t = busWrite a v { s with hostProg := rest }) ∨
    (∃ rest, s.hostProg = .poll :: rest ∧ t = pollStatus rest s) ∨
    (∃ rest, s.hostProg = .waitIrq :: rest ∧ t = if s.irq then { s with hostProg := rest } else s) := by
  unfold hostStep at h
  split at h
  · exact .inl ⟨‹_›, (Host.Outcome.next.inj h).symm⟩
  · exact .inr (.inl ⟨_, _, ‹_›, h⟩)
  · exact .inr (.inr (.inl ⟨_, _, _, ‹_›, (Host.Outcome.next.inj h).symm⟩))
  · exact .inr (.inr (.inr (.inl ⟨_, ‹_›, (Host.Outcome.next.inj h).symm⟩)))
  · exact .inr (.inr (.inr (.inr ⟨_, ‹_›, (Host.Outcome.next.inj h).symm⟩)))

/-- Everything a turn of the engine can answer. -/
theorem engineStep_cases (s : State) :
    (s.status.busy = false ∧ engineStep s = .next s) ∨
    (s.status.busy = true ∧ ∃ i, decode s.curCmd = .ok i ∧ engineStep s = exec i s) ∨
    (s.status.busy = true ∧ ∃ e, decode s.curCmd = .error e ∧ engineStep s = .next (illegalCommand s)) := by
  cases hb : s.status.busy with
  | false => exact .inl ⟨rfl, by simp [engineStep, hb]⟩
  | true =>
    cases hd : decode s.curCmd with
    | ok i => exact .inr (.inl ⟨rfl, i, rfl, by simp [engineStep, hb, hd]⟩)
    | error e => exact .inr (.inr ⟨rfl, e, rfl, by simp [engineStep, hb, hd]⟩)

/-- Everything a step that answers a next state can have done: a turn of the host, of the engine, or a reset. -/
theorem step_next {s t : State} (h : step s = .next t) :
    s.palette.wellFormed = true ∧
    ((s.nextTurn = .host ∧ hostStep s.popTurn = .next t) ∨
      (s.nextTurn = .engine ∧ engineStep s.popTurn = .next t) ∨
      ∃ lost, s.nextTurn = .reset lost ∧ t = resetBlock lost s.popTurn) := by
  unfold step stepTurn at h
  split at h
  · refine ⟨‹_›, ?_⟩
    cases ht : s.nextTurn with
    | host => exact .inl ⟨rfl, by simpa [takeTurn, ht] using h⟩
    | engine => exact .inr (.inl ⟨rfl, by simpa [takeTurn, ht] using h⟩)
    | reset lost => exact .inr (.inr ⟨lost, rfl, by simpa [takeTurn, ht] using h.symm⟩)
  · cases h

end Sys2Proof.Machine
end

