-- ==== Sys2Proof/Tests/Slice0.lean ====
section
/-! SUPPORT. The model's own tests. Every expected value is the spec's: a rule's own example or a vector of
spec/95_test_vectors.md, named beside the test. At the end, one witness for the hypotheses of every statement. -/

namespace Sys2Proof.Tests

open Sys2Proof Sys2Proof.Machine Sys2Proof.Claims

/-! ### Well-formedness -/

theorem test_palette_default_is_well_formed : Config.paletteDefault.wellFormed = true := by decide

theorem test_palette_with_equal_triples_is_ill_formed :
    ({ Config.paletteDefault with yellow := Config.paletteDefault.red } : Palette).wellFormed = false := by decide

theorem test_every_command_is_well_formed :
    [Instr.nop, .quantize, .dither, .pack, .encodeFrame].map Instr.wellFormed = [true, true, true, true, true] := by
  decide

theorem test_place_past_its_window_is_ill_formed :
    (Place.elem .src 30999).wellFormed = true ∧ (Place.elem .src 31000).wellFormed = false ∧
      (HostLine.wr (.elem .pack 1938) 0).wellFormed = false := by decide

theorem test_fill_past_its_window_is_ill_formed :
    (HostLine.fill .code 0 31000 1).wellFormed = true ∧ (HostLine.fill .code 1 31000 1).wellFormed = false := by
  decide

/-! ### Decoding: words written out from R90 and R91 -/

theorem test_decode_nop : decode 0b00000000000000000000000000000000#32 = .ok .nop := by decide
theorem test_decode_quantize : decode 0b00000000000000000000000000000001#32 = .ok .quantize := by decide
theorem test_decode_dither : decode 0b00000000000000000000000000000010#32 = .ok .dither := by decide
theorem test_decode_pack : decode 0b00000000000000000000000000000011#32 = .ok .pack := by decide
theorem test_decode_encode_frame : decode 0b00000000000000000000000000000100#32 = .ok .encodeFrame := by decide

/-- 0x00000102 is not DITHER (R119); OPC 0x05 to 0xFF is reserved (R93). -/
theorem test_decode_illegal :
    decode 0x00000102 = .error (.reservedBits 1) ∧ decode 0x00000005 = .error (.reservedOpcode 5) ∧
      decode 0xFFFFFFFF = .error (.reservedBits 0xFFFFFF) ∧ decodeTableWord 32 5 = none := by decide

/-! ### Helpers -/

/-- The state that `step` leaves; s itself where it stops. -/
def after (s : State) : State :=
  match step s with
  | .next t => t
  | .fault _ | .refused _ => s

/-- The state after the first n steps. -/
def afterSteps : Nat → State → State
  | 0, s => s
  | n + 1, s => afterSteps n (after s)

/-- The state after the completion step of a command word. -/
def ran (s : State) (w : Nat) : State := after (s.withFetchWord 32 w)

/-- The word a host read returns; none where the machine stops. -/
def readWord (s : State) (a : Addr) : Option Word :=
  match busRead a s with
  | .next t => t.busData
  | .fault _ | .refused _ => none

/-! ### NOP and illegal words -/

/-- V-E1; V-E25: ACCESS_ERR survives. -/
theorem test_nop : (ran State.reset 0).status.toWord = 0x00000002 ∧
    (ran { State.reset with status := { Status.reset with done := true, accessErr := true } } 0).status.toWord =
      0x0000000A := by decide

/-- V-E2, V-E3, V-E4. -/
theorem test_illegal_words : (ran State.reset 0x5).status.toWord = 0x14 ∧
    (ran State.reset 0x102).status.toWord = 0x14 ∧ (ran State.reset 0xFFFFFFFF).status.toWord = 0x14 := by decide

/-! ### QUANTIZE -/

/-- Q_CODE and STATUS after QUANTIZE of a colour under PALETTE_DEFAULT. -/
def quantized (r g b : Byte) : Nat × Word :=
  let t := ran { State.reset with qRgb := ⟨r, g, b⟩ } 1
  (t.qCode.toNat, t.status.toWord)

/-- V-Q1 to V-Q8. -/
theorem test_quantize_vectors :
    [quantized 128 128 128, quantized 127 127 127, quantized 255 127 128, quantized 127 128 0, quantized 0 0 255,
      quantized 0 255 0, quantized 255 0 255, quantized 0 255 255] =
    [(1, 2), (0, 2), (1, 2), (0, 2), (0, 2), (0, 2), (1, 2), (1, 2)] := by decide

/-- V-Q9 to V-Q14. -/
theorem test_quantize_more_vectors :
    [quantized 255 128 0, quantized 255 127 0, quantized 200 50 50, quantized 128 128 127, quantized 128 0 0,
      quantized 127 0 0] = [(2, 2), (3, 2), (3, 2), (2, 2), (3, 2), (0, 2)] := by decide

/-- V-Q19 to V-Q23, and Dist2 of V-Q1. -/
theorem test_quantizeS_q8 :
    quantizeS Config.paletteDefault ⟨32640, 32640, 32640⟩ 256 = .white ∧
    quantizeS Config.paletteDefault ⟨-2560, -2560, -2560⟩ 256 = .black ∧
    quantizeS Config.paletteDefault ⟨76800, 76800, 76800⟩ 256 = .white ∧
    quantizeS Config.paletteDefault ⟨76800, -5120, -5120⟩ 256 = .red ∧
    quantizeS Config.paletteDefault ⟨65281, 0, 0⟩ 256 = .red ∧
    dist2 Config.paletteDefault ⟨128, 128, 128⟩ 1 .white = 48387 ∧
    dist2 Config.paletteDefault ⟨128, 128, 128⟩ 1 .yellow = 48642 := by decide

/-! ### DITHER -/

/-- V-C1 to V-C11. -/
theorem test_contrib :
    [contrib (-32512) 7, contrib (-32512) 5, contrib (-32512) 3, contrib (-32512) 1, contrib 8 1, contrib (-8) 1,
      contrib (-24) 1, contrib (-9) 1, contrib 1 7, contrib (-14224) 3, contrib 0 5] =
    [-14224, -10160, -6096, -2032, 1, 0, -1, -1, 0, -2667, 0] := by decide

/-- V-C12 to V-C17. -/
theorem test_toByte : [toByte (-1), toByte 255, toByte 256, toByte 51056, toByte 65280, toByte 93840] =
    [0, 0, 1, 199, 255, 255] := by decide

/-- The example of R157 (V-D1) on its four neighbours: white, one pixel (200,200,200) at an index 1 of row 0, so that its
targets are 2, 250, 251 and 252. -/
theorem test_dither_pixel_shares :
    let white : Triple := ⟨65280, 65280, 65280⟩
    let acc : AccArray := (Array.replicate 253 white).setIfInBounds 1 ⟨51200, 51200, 51200⟩
    let out := ditherPixel Config.paletteDefault .skip acc (1, 0)
    [out.at 1, out.at 2, out.at 250, out.at 251, out.at 252].map Triple.r = [65280, 59120, 62640, 60880, 64400] := by
  decide +kernel

/-- V-E5, V-D11: the pre-flight check; and R42: an unwritten SRC faults. -/
theorem test_dither_checks : (ran State.reset 2).status.toWord = 0x24 ∧
    (ran { State.reset with rasterW := 250 } 2).status.toWord = 0x24 ∧
    execDither { State.reset with rasterW := 250, rasterH := 124 } = .fault (.unwrittenRead .src 0) := by
  refine ⟨by decide, by decide, ?_⟩
  have h : ({ State.reset with rasterW := 250, rasterH := 124 } : State).srcOperand = .error 0 :=
    srcOperand_error_iff.2 ⟨by decide, rfl, by simp⟩
  simp only [execDither, h]
  rfl

/-! ### PACK -/

/-- V-S5 with c = RED, V-P6, V-P8's index, and V-P7, on one byte of 0x55 at its place. -/
theorem test_put_code :
    (putCode #[0x55] (packIndex 0 0) 3)[0]? = some 0xD5 ∧ (putCode #[0x55] (packIndex 3 0) 2)[0]? = some 0x56 ∧
    packIndex 0 1 = 124 ∧ packByteIndex (packIndex 0 1) = 31 ∧ packBitOffset (packIndex 0 1) = 6 ∧
    (putCode #[0x55, 0x55] (packIndex 4 0) 0)[1]? = some 0x15 ∧ packByteIndex (packIndex 123 249) = 7749 := by decide

/-- V-P12 and the first line of program P3. -/
theorem test_pack_checks : (ran State.reset 3).status.toWord = 0x24 ∧
    (ran { State.reset with rasterW := 250, rasterH := 123 } 3).status.toWord = 0x24 := by decide

/-! ### ENCODE_FRAME -/

/-- A state with payload bytes AA BB, n = 2 and cmd 0x01 (V-F1). -/
def frameState : State :=
  { State.reset with fePayload := Memory.ofList [0xAA, 0xBB], fePayloadLen := 2, feCmdId := 1 }

/-- V-S6, V-F1. -/
theorem test_encode_frame_example :
    (let t := ran frameState 4
     t.status.toWord = 2 ∧ t.feFrameLen = 6 ∧ readWord t 0x83000 = some 0xAA01045C ∧
      readWord t 0x83004 = some 0x00007ABB ∧ t.feFrame.read 259 = some 0 ∧ t.feFrame.read 260 = none) := by decide

/-- V-F4 after V-F1 (program P2), and V-F2: the empty payload. -/
theorem test_encode_frame_corners :
    (let t := ran { ran frameState 4 with fePayloadLen := 254 } 4
     t.status.toWord = 0x34 ∧ t.feFrameLen = 0 ∧ readWord t 0x83000 = some 0xAA01045C) ∧
    readWord (ran { State.reset with feCmdId := 2 } 4) 0x83000 = some 0x7A02025C := by decide

/-! ### The port -/

/-- V-E6, V-E7: write-1-to-clear. -/
theorem test_status_write :
    (busWrite 8 4 (ran State.reset 5)).status.toWord = 0 ∧ (busWrite 8 2 (ran State.reset 5)).status.toWord = 0x14 := by
  decide

/-- V-E9, V-E10, V-E11. -/
theorem test_rejected_accesses :
    readWord State.reset 2 = some 0 ∧ readWord State.reset 0x40 = some 0 ∧
    (busWrite 0x3E460 0x12345678 State.reset).status.toWord = 8 ∧ (busWrite 0x3E460 1 State.reset).src = [] := by decide

/-- V-E12, V-E13, V-E14, V-E15, V-E26. -/
theorem test_registers :
    readWord (busWrite 0 0 State.reset) 0 = some 0x434F4C51 ∧ readWord State.reset 4 = some 0 ∧
    readWord (busWrite 0x10 3 (busWrite 0x10 2 State.reset)) 0x10 = some 2 ∧
    readWord (busWrite 0x10 0xFFFFFFFE State.reset) 0x10 = some 2 ∧
    readWord (busWrite 0x20 3 State.reset) 0x20 = some 0 ∧ readWord State.reset 0x34 = some 0 ∧
    readWord State.reset 0x3C = some 0x00FFFF00 := by decide

/-- V-E16, V-E17, V-E18, V-E27. -/
theorem test_windows :
    readWord (busWrite 0x20004 0xFF123456 State.reset) 0x20004 = some 0x00123456 ∧
    readWord (busWrite 0x60004 0xFFFFFFFE State.reset) 0x60004 = some 2 ∧
    (busWrite 0x40000 0x00FFFFFF State.reset).status.toWord = 0 ∧ (busWrite 0x40000 1 State.reset).dst = [] ∧
    busRead 0x80000 State.reset = .fault (.unwrittenRead .pack 0) := by
  refine ⟨by decide, by decide, by decide, by decide, rfl⟩

/-- A host about to run a program from reset, the given agents moving first. -/
def hostRuns (turns : List Turn) (p : List HostLine) : State := { State.reset.withHostProgram p with turns := turns }

/-- V-E19: a second CMD write while BUSY is rejected. -/
theorem test_busy_cmd_write :
    let p := [HostLine.wr (.reg .cmd) 0, .wr (.reg .cmd) 0, .rd (.reg .status), .poll, .rd (.reg .status)]
    (afterSteps 3 (hostRuns [.host, .host, .host] p)).busData = some 9 ∧
    (afterSteps 6 (hostRuns [.host, .host, .host] p)).busData = some 0xA := by decide

/-- V-E20, V-E21. -/
theorem test_busy_accesses :
    (afterSteps 2 (hostRuns [.host, .host] [.wr (.reg .cmd) 0, .rd (.elem .src 0)])).busData = some 0 ∧
    (afterSteps 3 (hostRuns [.host, .host] [.wr (.reg .cmd) 0, .wr (.reg .intEn) 1])).irq = true := by decide

/-- Program P7: an illegal word, `irq`, acknowledge. -/
theorem test_irq_program :
    let s := { State.reset with
      hostProg := [.write 0x0C 3, .write 4 7, .waitIrq, .read 8, .write 8 4, .write 4 0, .waitIrq, .write 8 2] }
    (afterSteps 2 s).irq = false ∧ (afterSteps 3 s).irq = true ∧ (afterSteps 5 s).busData = some 0x14 ∧
    (afterSteps 6 s).irq = false ∧ (afterSteps 8 s).irq = true ∧ (afterSteps 10 s).irq = false ∧
    (afterSteps 10 s).hostProg = [] ∧ (afterSteps 10 s).status.toWord = 0 := by decide

/-- R251: a reset abandons the running command and discards the host's action in flight. -/
theorem test_reset_turn :
    let t := afterSteps 2 (hostRuns [.host, .reset 1] [.wr (.reg .cmd) 1, .rd (.reg .status), .rd (.reg .id)])
    t.status.toWord = 0 ∧ t.hostProg = [.read 0] ∧ t.palette = Config.paletteDefault := by decide

/-- R237, V-S8: the last of two chunks and the sequence bytes. -/
theorem test_packetize :
    packetize (List.replicate 66 0x55) = [0 :: List.replicate 64 0x55, [1, 0x55, 0x55]] := by decide

/-! ### Witnesses: for the hypotheses of every statement a state and operands that meet them all -/

/-- A state whose SRC and CODE are written whole: SRC all (255,255,255), CODE all WHITE, dimensions declared. -/
def fullState : State :=
  { State.reset with
    rasterW := 250
    rasterH := 124
    src := Memory.ofList (List.replicate 31000 Config.paletteDefault.white)
    code := Memory.ofList (List.replicate 31000 (1 : Code)) }

theorem read_replicate {α : Type} {n i : Nat} (v : α) (h : i < n) :
    (Memory.ofList (List.replicate n v)).read i = some v := by simp [h]

theorem read_replicate_past {α : Type} {n i : Nat} (v : α) (h : n ≤ i) :
    (Memory.ofList (List.replicate n v)).read i = none := by simp [h]

theorem fullState_src {p : Nat} (h : p < 31000) : fullState.src.read p = some Config.paletteDefault.white :=
  read_replicate _ h

theorem fullState_code {p : Nat} (h : p < 31000) : fullState.code.read p = some (1 : Code) :=
  read_replicate _ h

/-- A running state: NOP accepted from reset. -/
def busyState : State := State.reset.accept 0

/-- A state whose payload bytes below n are 0x11 and whose payload length is n. -/
def payloadState (n : Nat) : State :=
  { State.reset with
    fePayload := Memory.ofList (List.replicate n (0x11 : Byte))
    fePayloadLen := BitVec.ofNat 8 n }

theorem payloadState_read {n i : Nat} (h : i < n) : (payloadState n).fePayload.read i = some 0x11 :=
  read_replicate _ h

theorem witness_WordsDecodeToTheirCommands : Instr.dither.wellFormed = true := by decide

theorem witness_StepIsOneMoveOfOneAgent :
    State.reset.palette.wellFormed = true ∧
    ∃ (s : State) (c c' : Colour), c ≠ c' ∧ paletteRgb s.palette c = paletteRgb s.palette c' :=
  ⟨by decide, State.resetWith { Config.paletteDefault with yellow := ⟨255, 0, 0⟩ }, .red, .yellow, by decide, by decide⟩

theorem witness_StepRunsTheDecodedCommand :
    let s := State.reset.withFetchWord 32 4
    s.palette.wellFormed = true ∧ s.nextTurn = .engine ∧ s.status.busy = true ∧ decode s.curCmd = .ok .encodeFrame := by
  decide

theorem witness_IllegalWordEndsWithIllegalCommand :
    (busyState.status.busy = true ∧ 5 ≤ ({ busyState with curCmd := 5 }.curCmd.extractLsb' 0 8 : BitVec 8).toNat) ∧
    ({ busyState with curCmd := 0x102 }.curCmd.extractLsb' 8 24 : BitVec 24) ≠ 0 ∧ State.reset.status.toWord = 0 := by
  decide

theorem witness_IdleBlockDoesNothing :
    State.reset.palette.wellFormed = true ∧ State.reset.nextTurn = .host ∧ State.reset.hostProg = [] ∧
    { State.reset with turns := [.engine] }.nextTurn = .engine ∧
    { State.reset with turns := [.engine] }.status.busy = false := by decide

theorem witness_BusyEngineCompletes :
    busyState.palette.wellFormed = true ∧ busyState.turns = [] ∧ busyState.status.busy = true ∧
    ∀ i, decode busyState.curCmd = .ok i → busyState.preflightOk i → busyState.operandsWritten i := by
  refine ⟨by decide, rfl, rfl, fun i h _ => ?_⟩
  obtain rfl : Instr.nop = i := by simpa [busyState, State.accept, decode, decodeOpc, rsvdField, opcField] using h
  trivial

theorem witness_IdleCmdWriteIsAccepted : State.reset.status.busy = false := rfl

theorem witness_BusyCmdWriteIsRejected : busyState.status.busy = true := rfl

theorem witness_NopOnlyCompletes : State.reset.status.toWord = 0 := by decide

theorem witness_QuantizeGivesFirstNearestColour (c : Rgb) :
    ∃ s t : State, s.palette = Config.paletteDefault ∧ exec .quantize s = .next t ∧ s.qRgb = c :=
  ⟨{ State.reset with qRgb := c }, _, rfl, rfl, rfl⟩

theorem witness_DitherCompletes :
    fullState.rasterW = 250 ∧ fullState.rasterH = 124 ∧ ∀ p, p < 31000 → (fullState.src.read p).isSome = true :=
  ⟨rfl, rfl, fun _ h => by simp [fullState_src h]⟩

theorem witness_PackGivesTheClosedForm :
    fullState.rasterW = 250 ∧ fullState.rasterH = 124 ∧
    (∀ p, p < 31000 → (fullState.code.read p).isSome = true) ∧
    ∀ col k i, col < 250 → k < 31 → i < 4 → fullState.code.read ((4 * k + i) * 250 + col) = some (1 : Code) :=
  ⟨rfl, rfl, fun _ h => by simp [fullState_code h], fun col k i _ _ _ => fullState_code (by omega)⟩

/-- The boundary n = 253 of a frame that fits and n = 254 of one that does not (R202); n = 0 as well. -/
theorem witness_EncodeFrameBuildsTheFrame :
    ((payloadState 253).fePayloadLen.toNat = 253 ∧
      ∀ i, i < 253 → (payloadState 253).fePayload.read i = some 0x11) ∧
    (payloadState 0).fePayloadLen.toNat = 0 ∧ 254 ≤ (payloadState 254).fePayloadLen.toNat :=
  ⟨⟨rfl, fun _ h => payloadState_read h⟩, rfl, by decide⟩

theorem witness_WrongDimensionsChangeOnlyStatus :
    { fullState with rasterW := 251 }.rasterW ≠ 250 ∧ { fullState with rasterH := 123 }.rasterH ≠ 124 := by
  simp

theorem witness_UnwrittenOperandFaults :
    (∃ (s : State) (p : Nat), s.rasterW = 250 ∧ s.rasterH = 124 ∧ p < 31000 ∧ s.src.read p = none ∧
      ∀ q, q < p → (s.src.read q).isSome = true) ∧
    (∃ (s : State) (p : Nat), s.rasterW = 250 ∧ s.rasterH = 124 ∧ p < 31000 ∧ s.code.read p = none ∧
      ∀ q, q < p → (s.code.read q).isSome = true) ∧
    (∃ (s : State) (k : Nat), s.fePayloadLen.toNat ≤ 253 ∧ k < s.fePayloadLen.toNat ∧ s.fePayload.read k = none ∧
      ∀ j, j < k → (s.fePayload.read j).isSome = true) :=
  ⟨⟨{ fullState with src := Memory.ofList (List.replicate 30999 ⟨0, 0, 0⟩) }, 30999, rfl, rfl, by omega, read_replicate_past _ (by omega),
      fun q h => by rw [read_replicate _ h]; rfl⟩,
    ⟨{ fullState with code := Memory.ofList (List.replicate 30999 0) }, 30999, rfl, rfl, by omega, read_replicate_past _ (by omega),
      fun q h => by rw [read_replicate _ h]; rfl⟩,
    ⟨{ payloadState 252 with fePayloadLen := 253 }, 252, by decide, by decide, read_replicate_past _ (by omega),
      fun j h => by rw [payloadState_read h]; rfl⟩⟩

theorem fullState_dimensions : fullState.dimensionsOk = true := rfl

theorem fullState_dither : ∃ t, exec .dither fullState = .next t ∧ t.status.done = true := by
  rcases execDither_cases fullState with ⟨h, -⟩ | ⟨-, _, -, h⟩ | ⟨-, p, h, -⟩
  · rw [fullState_dimensions] at h; cases h
  · exact ⟨_, h, rfl⟩
  · obtain ⟨hp, hn, -⟩ := srcOperand_error_iff.1 h
    rw [fullState_src hp] at hn; cases hn

theorem fullState_pack : ∃ t, exec .pack fullState = .next t ∧ t.status.done = true := by
  rcases execPack_cases fullState with ⟨h, -⟩ | ⟨-, _, -, h⟩ | ⟨-, p, h, -⟩
  · rw [fullState_dimensions] at h; cases h
  · exact ⟨_, h, rfl⟩
  · obtain ⟨hp, hn, -⟩ := codeOperand_error_iff.1 h
    rw [fullState_code hp] at hn; cases hn

theorem witness_CommandsWriteOnlyTheirResults (i : Instr) : ∃ s t : State, exec i s = .next t := by
  cases i with
  | nop => exact ⟨State.reset, _, rfl⟩
  | quantize => exact ⟨State.reset, _, rfl⟩
  | dither => exact ⟨fullState, fullState_dither.imp fun _ h => h.1⟩
  | pack => exact ⟨fullState, fullState_pack.imp fun _ h => h.1⟩
  | encodeFrame => exact ⟨State.reset, _, rfl⟩

theorem witness_ErrorsArePrecise :
    ∃ s t : State, running s ∧ engineStep s = .next t ∧ t.status.err = true :=
  ⟨State.reset.accept 2, _, ⟨rfl, rfl, rfl, rfl⟩, rfl, rfl⟩

theorem witness_RunningTwiceIsRunningOnce (i : Instr) : ∃ s t : State, exec i s = .next t :=
  witness_CommandsWriteOnlyTheirResults i

theorem witness_ResultsDependOnlyOnOperands (i : Instr) :
    running { busyState with pack := [(0, 0)] } ∧ running busyState ∧
    agreeOnOperands i { busyState with pack := [(0, 0)] } busyState := by
  refine ⟨⟨rfl, rfl, rfl, rfl⟩, ⟨rfl, rfl, rfl, rfl⟩, ?_⟩
  cases i <;> simp [agreeOnOperands]

theorem witness_ResultsDependOnlyOnOperands_outcomes :
    (∃ t, exec .nop busyState = .next t) ∧
    exec .encodeFrame { busyState with fePayloadLen := 1 } = .fault (.unwrittenRead .fePayload 0) :=
  ⟨⟨_, rfl⟩, rfl⟩

theorem witness_QuantizerReturnsFirstMinimum : (0 : Int) < 1 ∧ (0 : Int) < 256 := by decide

theorem witness_QuantizerIsScaleInvariant : (0 : Int) < 256 := by decide

theorem witness_PaletteColoursAreFixedPoints : Config.paletteDefault.wellFormed = true := by decide

theorem witness_DefaultPaletteHasLinearKeys : (0 : Int) < 1 := by decide

theorem witness_SharesAreRoundedHalfUp : (16 : Int) ∣ 16 * 1 ∧ (256 : Int) ∣ -32512 := by decide

theorem witness_OutputIsClippedAndTruncated : (-1 : Int) ≤ 0 ∧ (0 : Int) ≤ 51056 ∧ (51056 : Int) ≤ 65280 := by decide

theorem witness_OnePixelDiffusesItsError :
    ∃ acc : AccArray, Array.size acc = 31000 ∧ (0 ≤ 248 ∧ 0 ≤ 122 ∧ 0 < 31000) ∧ (248 ≤ 248 ∧ 122 ≤ 122 ∧ 30999 < 31000) :=
  ⟨Array.replicate 31000 Triple.zero, Array.size_replicate, by omega, by omega⟩

theorem witness_DitherMeetsTheShareRecurrence :
    fullState.rasterW = 250 ∧ fullState.rasterH = 124 ∧ ∀ p, p < 31000 → (fullState.src.read p).isSome = true :=
  witness_DitherCompletes

theorem witness_ProcessedPixelsEndOnThePalette :
    ∃ t, fullState.palette.wellFormed = true ∧ fullState.rasterW = 250 ∧ fullState.rasterH = 124 ∧
      exec .dither fullState = .next t :=
  fullState_dither.imp fun _ h => ⟨by decide, rfl, rfl, h.1⟩

theorem witness_DitherIsIdentityOnPaletteImages :
    fullState.palette.wellFormed = true ∧ fullState.rasterW = 250 ∧ fullState.rasterH = 124 ∧
    ∀ p, p < 31000 → fullState.src.read p = some (paletteRgb fullState.palette .white) :=
  ⟨by decide, rfl, rfl, fun _ h => fullState_src h⟩

theorem witness_AccumulatorNeverOverflows :
    ∃ raster : List Rgb, raster.length = 31000 ∧ scanOrder[0]? = some (0, 0) ∧ 30627 ≤ 30627 ∧ 30999 < 31000 :=
  ⟨List.replicate 31000 ⟨0, 0, 255⟩, List.length_replicate, rfl, by omega, by omega⟩

theorem witness_PutCodeWritesOneField : (#[0x55, 0x55] : Array Byte)[1]? = some 0x55 := by decide

theorem witness_PackIndexIsABijection : packIndex 123 249 = packIndex 123 249 ∧ packIndex 123 249 = 30999 := by decide

theorem witness_UnpackingInvertsPack :
    ∃ t, fullState.rasterW = 250 ∧ fullState.rasterH = 124 ∧ exec .pack fullState = .next t :=
  fullState_pack.imp fun _ h => ⟨rfl, rfl, h.1⟩

/-- The last element of every window, at the end address of R62 less 3. -/
theorem witness_AddressMapIsTheTable :
    (30999 < 31000 ∧ 1937 < 1938 ∧ 63 < 64 ∧ 64 < 65) ∧
    [0x3E45C#20, 0x5E45C, 0x7E45C, 0x81E44, 0x820FC, 0x83100].map decodeAddress =
      [.element .src 30999, .element .dst 30999, .element .code 30999, .element .pack 1937, .element .fePayload 63,
        .element .feFrame 64] := by decide

/-- Both ends of every unmapped range of R62, and a misaligned address. -/
theorem witness_MisalignedAndUnmappedAreRejected :
    (0x00002#20).toNat % 4 ≠ 0 ∧
    ∀ a ∈ [0x40, 0x1FFFC, 0x3E460, 0x3FFFC, 0x5E460, 0x5FFFC, 0x7E460, 0x7FFFC, 0x81E48, 0x81FFC, 0x82100, 0x82FFC,
      0x83104, 0xFFFFC], unmapped (BitVec.ofNat 20 a).toNat := by
  simp [unmapped]

theorem witness_BusyRamAccessIsRejected : 1937 < Window.pack.words ∧ busyState.status.busy = true := by decide

theorem witness_RegisterAccessWhileBusy : busyState.status.busy = true := rfl

/-- An idle state with DONE, ERR and ACCESS_ERR set and WEST_EDGE = WRAP: the STATUS words 2, 4 and 8 clear one flag each,
and CONFIG takes each of its four field values. -/
theorem witness_RegisterWritesReadBack :
    let s := { State.reset with
      westEdge := .wrap
      status := { busy := false, done := true, err := true, accessErr := true, errCode := .payloadTooLarge } }
    s.status.busy = false ∧
    [1, 2, 4, 8].map (fun v => (busWrite 8 v s).status.toWord) = [0x3E, 0x3C, 0x0A, 0x36] ∧
    [0, 1, 2, 3].map (fun v => (busWrite 0x10 v s).westEdge) = [.skip, .clamp, .wrap, .wrap] ∧
    (busWrite 0x1C 0xFF010203 s).qRgb = ⟨1, 2, 3⟩ := by decide

theorem witness_RamWritesReadBack : State.reset.status.busy = false ∧ 30999 < 31000 ∧ 63 < 64 := by decide

/-- A state with every element of the four windows at its highest index written. -/
def lastElements : State :=
  { State.reset with
    src := [(30999, ⟨1, 2, 3⟩)]
    dst := [(30999, ⟨1, 2, 3⟩)]
    code := [(30999, 3)]
    pack := [(7744, 1), (7745, 2), (7746, 3), (7747, 4), (7748, 5), (7749, 6)]
    fePayload := [(252, 1), (253, 2), (254, 3), (255, 4)]
    feFrame := [(256, 1), (257, 2), (258, 3), (259, 4)] }

/-- The last element of every window: SRC[30999], PACK words 1936 and 1937, FE_PAYLOAD word 63, FE_FRAME word 64. -/
theorem witness_WindowsReadTheirElements :
    lastElements.status.busy = false ∧ lastElements.src.read 30999 = some ⟨1, 2, 3⟩ ∧
    lastElements.dst.read 30999 = some ⟨1, 2, 3⟩ ∧ lastElements.code.read 30999 = some 3 ∧
    (List.range 6).map (fun i => lastElements.pack.read (7744 + i)) = [1, 2, 3, 4, 5, 6].map some ∧
    (List.range 4).map (fun i => lastElements.fePayload.read (4 * 63 + i)) = [1, 2, 3, 4].map some ∧
    (List.range 4).map (fun i => lastElements.feFrame.read (4 * 64 + i)) = [1, 2, 3, 4].map some := by decide

theorem witness_ReadOnlyWindowsIgnoreWrites :
    30999 < Window.dst.words ∧ 1937 < Window.pack.words ∧ 64 < Window.feFrame.words ∧ State.reset.status.busy = false := by
  decide

theorem witness_HostReadOfUnwrittenFaults :
    State.reset.status.busy = false ∧ State.reset.src.read 30999 = none ∧ State.reset.dst.read 30999 = none ∧
    State.reset.code.read 30999 = none ∧ State.reset.pack.read 7749 = none ∧
    State.reset.fePayload.read 255 = none ∧ State.reset.feFrame.read 259 = none := by decide

theorem witness_HostLoopsWaitForTheBlock :
    { State.reset with hostProg := [.read 0] }.hostProg = .read 0 :: [] ∧
    { State.reset with hostProg := [.write 0x24 7] }.hostProg = .write 0x24 7 :: [] ∧
    { State.reset with hostProg := [.poll] }.hostProg = .poll :: [] ∧
    { State.reset with hostProg := [.waitIrq] }.hostProg = .waitIrq :: [] := by decide

theorem witness_HostNeverWritesResults :
    ∃ t, hostStep { busyState with hostProg := [.write 0x20000 1] } = .next t := ⟨_, rfl⟩

theorem witness_OnlyQuantizeWritesQCode :
    (∃ s t : State, step s = .next t ∧ t.qCode ≠ s.qCode ∧ s.nextTurn = .engine) ∧
    (∃ s t : State, step s = .next t ∧ t.qCode ≠ s.qCode ∧ s.nextTurn = .reset 0) :=
  ⟨⟨State.withFetchWord { State.reset with qRgb := ⟨255, 255, 255⟩ } 32 1, _, rfl, by decide, rfl⟩,
    ⟨{ State.reset with qCode := 1, turns := [.reset 0] }, _, rfl, by decide, rfl⟩⟩

theorem witness_BusyFreezesTheBlock : busyState.status.busy = true := rfl

theorem witness_HostTurnsDoNotDisturbACommand :
    (∃ s s' t : State, running s ∧ hostStep s = .next s' ∧ engineStep s = .next t) ∧
    ∃ (s s' : State) (f : Fault), running s ∧ hostStep s = .next s' ∧ engineStep s = .fault f :=
  ⟨⟨{ busyState with hostProg := [.write 0x0C 7] }, _, _, ⟨rfl, rfl, rfl, rfl⟩, rfl, rfl⟩,
    ⟨{ busyState with hostProg := [.write 0x0C 7], curCmd := 4, fePayloadLen := 1 }, _, .unwrittenRead .fePayload 0,
      ⟨rfl, rfl, rfl, rfl⟩, rfl, rfl⟩⟩

theorem witness_RunLineRunsItsCommand :
    let s := { State.reset with hostProg := expandLine (.run .nop) ++ [] }
    s.palette.wellFormed = true ∧ s.turns = [] ∧ s.status.busy = false ∧
    ∃ t, exec .nop { s with
      curCmd := encode .nop
      status := { busy := true, done := false, err := false, errCode := .none, accessErr := s.status.accessErr }
      busData := none
      hostProg := [.poll] } = .next t :=
  ⟨by decide, rfl, rfl, _, rfl⟩

theorem witness_ResetLeavesTheInitialState :
    let s := { fullState with turns := [.reset 3] }
    s.palette.wellFormed = true ∧ s.nextTurn = .reset 3 ∧ ∃ t, step s = .next t :=
  ⟨by decide, rfl, _, rfl⟩

theorem witness_StepKeepsTheInvariant : busyState.Inv ∧ ∃ t, step busyState = .next t :=
  ⟨{ palette := by decide
     noErrNoCode := fun _ => rfl
     errHasCode := fun h => by cases h
     busyIsClean := fun _ => ⟨rfl, rfl⟩
     notBoth := by decide
     frameLen := .inl rfl
     src := rfl, dst := rfl, code := rfl, pack := rfl, fePayload := rfl, feFrame := rfl, acc := rfl }, _, rfl⟩

/-- A state whose FE_FRAME holds the 6-byte frame 5C 04 01 AA BB 7A (V-S6). -/
def framed : State := ran frameState 4

theorem framed_feFrame :
    framed.feFrame = Memory.ofList ([0x5C, 4, 1, 0xAA, 0xBB, 0x7A] ++ List.replicate 254 0) := by decide +kernel

theorem witness_StepKeepsTheFrameWhole :
    framed.feFrameLen = 6 ∧ framed.frameBufferHoldsFrame ∧ ∃ t, step framed = .next t := by
  have h6 : framed.feFrameLen.toNat = 6 := by decide
  refine ⟨by decide, fun _ => ⟨by decide, by decide, by decide, by decide, by decide, ?_, ?_⟩, _, rfl⟩
  · rw [h6]
    unfold Memory.writtenBelow
    decide
  · intro k h1 h2
    rw [h6] at h1
    rw [framed_feFrame, Memory.read_ofList, List.getElem?_append_right h1]
    exact List.getElem?_replicate_of_lt (by
      simp only [Config.frameBytes, List.length_cons, List.length_nil] at h2 ⊢; omega)

theorem witness_HostPayloadsFitTheirFrames :
    (List.replicate 7750 (0x55 : Byte)).length = 7750 ∧
    configPayload [0x61, 0x62] [0x78, 0x79, 0x7A] = some [2, 3, 0x61, 0x62, 0x78, 0x79, 0x7A] :=
  ⟨List.length_replicate, by decide⟩

end Sys2Proof.Tests
end

section
/-! SUPPORT. What the decoder, the address map, the STATUS word and POLL answer, in the forms the proofs of the statements use. -/

namespace Sys2Proof.Machine

/-! ### Command words -/

theorem decodeOpc_eq_ok {opc : Byte} {i : Instr} (h : decodeOpc opc = .ok i) : opc = i.opc := by
  unfold decodeOpc at h
  split at h <;> cases h <;> exact BitVec.eq_of_toNat_eq ‹_›

/-- A word decodes to a command only when it is that command's word (R91, R92). -/
theorem eq_encode_of_decode {w : Word} {i : Instr} (h : decode w = .ok i) : w = encode i := by
  unfold decode at h
  split at h
  · rename_i hrsvd
    calc w = rsvdField w ++ opcField w := by
          rw [rsvdField, opcField, BitVec.extractLsb'_append_extractLsb'_eq_extractLsb' (x := w) (start₁ := 0) (len₁ := 8) rfl,
            BitVec.extractLsb'_eq_self]
      _ = encode i := by rw [hrsvd, decodeOpc_eq_ok h]; rfl
  · cases h

/-! ### The address map -/

@[simp] theorem decodeAddress_regAddress (r : Reg) : decodeAddress (regAddress r) = .register r := by
  cases r <;> decide

/-- No two windows share an address (R62). -/
theorem windows_disjoint {w w' : Window} (h : w ≠ w') :
    windowBase w + 4 * w.words ≤ windowBase w' ∨ windowBase w' + 4 * w'.words ≤ windowBase w := by
  revert h
  cases w <;> cases w' <;> decide

theorem find_windows {w : Window} {n : Nat} (h : windowBase w ≤ n ∧ n < windowBase w + 4 * w.words) :
    windows.find? (fun w => decide (windowBase w ≤ n ∧ n < windowBase w + 4 * w.words)) = some w := by
  have hmem : w ∈ windows := by cases w <;> decide
  generalize hfind : windows.find? _ = found
  cases found with
  | none => exact absurd (decide_eq_true h) (List.find?_eq_none.1 hfind w hmem)
  | some w' =>
    have h' := List.find?_some hfind
    simp only [decide_eq_true_eq] at h'
    by_cases hne : w' = w
    · rw [hne]
    · have := windows_disjoint hne
      omega

theorem windowAddress_toNat {w : Window} {k : Nat} (h : k < w.words) :
    (windowAddress w k).toNat = windowBase w + 4 * k := by
  have : windowBase w + 4 * k < 2 ^ 20 := by
    cases w <;> simp only [windowBase, Window.words] at h ⊢ <;> omega
  rw [windowAddress, BitVec.toNat_ofNat, Nat.mod_eq_of_lt this]

theorem decodeAddress_windowAddress {w : Window} {k : Nat} (h : k < w.words) :
    decodeAddress (windowAddress w k) = .element w k := by
  have haligned : windowBase w % 4 = 0 ∧ 0x20000 ≤ windowBase w := by cases w <;> decide
  have hreg : registers[(windowBase w + 4 * k) / 4]? = none :=
    List.getElem?_eq_none (by simp only [registers, List.length_cons, List.length_nil]; omega)
  have hwin := find_windows (w := w) (n := windowBase w + 4 * k) (by omega)
  simp only [decodeAddress, windowAddress_toNat h, hreg, hwin]
  rw [if_neg (by omega), show (windowBase w + 4 * k - windowBase w) / 4 = k by omega]

/-- An address names only elements that the window has. -/
theorem lt_words_of_decodeAddress {a : Addr} {w : Window} {k : Nat} (h : decodeAddress a = .element w k) :
    k < w.words := by
  unfold decodeAddress at h
  split at h
  · cases h
  · split at h
    · cases h
    · split at h
      · rename_i hfind
        cases h
        have := List.find?_some hfind
        simp only [decide_eq_true_eq] at this
        omega
      · cases h

/-! ### STATUS as a word, and POLL -/

theorem Status.toWord_busy (f : Status) : f.toWord.getLsbD 0 = f.busy := by
  simp only [Status.toWord, BitVec.getLsbD_append]
  simp

theorem Status.toWord_done (f : Status) : f.toWord.getLsbD 1 = f.done := by
  simp only [Status.toWord, BitVec.getLsbD_append]
  simp

theorem Status.toWord_err (f : Status) : f.toWord.getLsbD 2 = f.err := by
  simp only [Status.toWord, BitVec.getLsbD_append]
  simp

theorem Status.toWord_accessErr (f : Status) : f.toWord.getLsbD 3 = f.accessErr := by
  simp only [Status.toWord, BitVec.getLsbD_append]
  simp

theorem Status.toWord_errCode (f : Status) : (f.toWord.extractLsb' 4 4 : BitVec 4) = f.errCode.toBits := by
  rw [Status.toWord]
  repeat rw [BitVec.extractLsb'_append_eq_of_le (by decide)]
  exact BitVec.extractLsb'_append_eq_right

theorem Status.toWord_reserved (f : Status) : (f.toWord.extractLsb' 8 24 : BitVec 24) = 0 := by
  rw [Status.toWord]
  repeat rw [BitVec.extractLsb'_append_eq_of_le (by decide)]
  rfl

/-- One turn of POLL reads STATUS, and ends the loop exactly when BUSY is 0 (R99). -/
theorem pollStatus_eq (rest : List HostAction) (s : State) :
    pollStatus rest s = { s with
      busData := some s.status.toWord
      hostProg := if s.status.busy then s.hostProg else rest } := by
  simp only [pollStatus, readReg, Status.toWord_busy]
  split <;> rfl

end Sys2Proof.Machine
end

section
/-! SUPPORT. The invariant of the block: each operation on the flags, on a RAM and on the port keeps it, and so does every
turn of every agent. -/

namespace Sys2Proof.Machine

/-! ### The flags -/

/-- What the invariant says of STATUS (R24, R110, R113, R114). -/
structure Status.Legal (f : Status) : Prop where
  noErrNoCode : f.err = false → f.errCode = .none
  errHasCode : f.err = true → f.errCode ≠ .none
  busyIsClean : f.busy = true → f.done = false ∧ f.err = false
  notBoth : ¬(f.done = true ∧ f.err = true)

theorem State.Inv.legal {s : State} (h : s.Inv) : s.status.Legal := { h with }

theorem Status.accepted_legal (f : Status) : f.accepted.Legal where
  noErrNoCode _ := rfl
  errHasCode := nofun
  busyIsClean _ := ⟨rfl, rfl⟩
  notBoth := by simp

theorem Status.Legal.rejected {f : Status} (h : f.Legal) : f.rejected.Legal := { h with }

theorem Status.Legal.writeOneToClear {f : Status} (h : f.Legal) (v : Word) : (f.writeOneToClear v).Legal where
  noErrNoCode herr := by
    rw [writeOneToClear_err] at herr
    rw [writeOneToClear_errCode]
    cases hv : v.getLsbD 2 with
    | true => rfl
    | false => exact h.noErrNoCode (by rwa [hv, Bool.not_false, Bool.and_true] at herr)
  errHasCode herr := by
    simp only [writeOneToClear_err, writeOneToClear_errCode, Bool.and_eq_true, Bool.not_eq_true'] at herr ⊢
    obtain ⟨herr, hv⟩ := herr
    rw [hv]
    exact h.errHasCode herr
  busyIsClean hbusy := by simp [h.busyIsClean hbusy]
  notBoth hboth := by
    simp only [writeOneToClear_done, writeOneToClear_err, Bool.and_eq_true] at hboth
    exact h.notBoth ⟨hboth.1.1, hboth.2.1⟩

theorem Status.Legal.completed {f : Status} (h : f.Legal) (hbusy : f.busy = true) : f.completed.Legal := by
  obtain ⟨-, herr⟩ := h.busyIsClean hbusy
  exact { noErrNoCode := h.noErrNoCode, errHasCode := h.errHasCode, busyIsClean := nofun, notBoth := by simp [herr] }

theorem Status.Legal.failed {f : Status} (h : f.Legal) (hbusy : f.busy = true) {c : ErrCode} (hc : c ≠ .none) :
    (f.failed c).Legal := by
  obtain ⟨hdone, -⟩ := h.busyIsClean hbusy
  exact { noErrNoCode := nofun, errHasCode := fun _ => hc, busyIsClean := nofun, notBoth := by simp [hdone] }

/-! ### The shared operations -/

theorem State.Inv.withStatus {s : State} (h : s.Inv) {f : Status} (hf : f.Legal) : { s with status := f }.Inv :=
  { hf, h with }

theorem State.Inv.complete {s : State} (h : s.Inv) (hbusy : s.status.busy = true) : s.complete.Inv :=
  h.withStatus (h.legal.completed hbusy)

theorem State.Inv.raiseError {s : State} (h : s.Inv) (hbusy : s.status.busy = true) {c : ErrCode} (hc : c ≠ .none) :
    (s.raiseError c).Inv :=
  h.withStatus (h.legal.failed hbusy hc)

theorem State.Inv.rejectRead {s : State} (h : s.Inv) : s.rejectRead.Inv := { h.withStatus h.legal.rejected with }

theorem State.Inv.rejectWrite {s : State} (h : s.Inv) : s.rejectWrite.Inv := { h.withStatus h.legal.rejected with }

theorem inv_resetWith {p : Palette} (h : p.wellFormed = true) : (State.resetWith p).Inv where
  palette := h
  noErrNoCode _ := rfl
  errHasCode := nofun
  busyIsClean := nofun
  notBoth := nofun
  frameLen := .inl rfl
  src := Memory.wf_nil _
  dst := Memory.wf_nil _
  code := Memory.wf_nil _
  pack := Memory.wf_nil _
  fePayload := Memory.wf_nil _
  feFrame := Memory.wf_nil _
  acc := Memory.wf_nil _

/-! ### The host -/

theorem State.Inv.writeReg {s : State} (h : s.Inv) (r : Reg) (v : Word) : (writeReg r v s).Inv := by
  cases r with
  | cmd => exact { h.withStatus s.status.accepted_legal with }
  | status => exact h.withStatus (h.legal.writeOneToClear v)
  | intEn | config | rasterW | rasterH | qRgb | feCmdId | fePayloadLen => exact { h with }
  | id | qCode | feFrameLen | palWhite | palBlack | palRed | palYellow => exact h

theorem writeByteWord_wf {size j : Nat} {m : Memory Byte} (v : Word) (h : m.wf size = true) (hj : 4 * j + 3 < size) :
    (writeByteWord m j v).wf size = true :=
  Memory.write_wf (Memory.write_wf (Memory.write_wf (Memory.write_wf h (by omega)) (by omega)) (by omega)) hj

theorem State.Inv.writeWindow {s : State} (h : s.Inv) {w : Window} {k : Nat} (hk : k < w.words) (v : Word) :
    (writeWindow w k v s).Inv := by
  cases w with
  | src => exact { h with src := Memory.write_wf h.src hk }
  | code => exact { h with code := Memory.write_wf h.code hk }
  | fePayload =>
    have hlast : 4 * k + 3 < Config.payloadBytes := by simp only [Window.words] at hk; simp only [Config.payloadBytes]; omega
    exact { h with fePayload := writeByteWord_wf v h.fePayload hlast }
  | dst | pack | feFrame => exact h

theorem State.Inv.busRead {s t : State} {a : Addr} (h : s.Inv) (ht : busRead a s = .next t) : t.Inv := by
  obtain rfl | ⟨v, rfl⟩ := busRead_next ht
  · exact h.rejectRead
  · exact { h with }

theorem State.Inv.busWrite {s : State} (h : s.Inv) (a : Addr) (v : Word) : (busWrite a v s).Inv := by
  obtain heq | ⟨r, -, -, heq⟩ | ⟨w, k, ha, -, heq⟩ := busWrite_cases a v s <;> rw [heq]
  · exact h.rejectWrite
  · exact { h.writeReg r v with }
  · exact { h.writeWindow (lt_words_of_decodeAddress ha) v with }

theorem State.Inv.pollStatus {s : State} (h : s.Inv) (rest : List HostAction) : (pollStatus rest s).Inv := by
  rw [pollStatus_eq]
  exact { h with }

theorem State.Inv.hostStep {s t : State} (h : s.Inv) (ht : hostStep s = .next t) : t.Inv := by
  have hrest (rest : List HostAction) : { s with hostProg := rest }.Inv := { h with }
  obtain ⟨-, rfl⟩ | ⟨a, rest, -, hread⟩ | ⟨a, v, rest, -, rfl⟩ | ⟨rest, -, rfl⟩ | ⟨rest, -, rfl⟩ := hostStep_next ht
  · exact h
  · exact (hrest rest).busRead hread
  · exact (hrest rest).busWrite a v
  · exact h.pollStatus rest
  · split
    · exact hrest rest
    · exact h

/-! ### The engine -/

/-! The memories a command writes stand as variables here, so that no proof evaluates a raster. -/

theorem State.Inv.completeWithRasters {s : State} (h : s.Inv) (hbusy : s.status.busy = true) {dst : Memory Rgb}
    {code : Memory Code} {acc : Memory AccCell} (hdst : dst.wf Config.pixels = true)
    (hcode : code.wf Config.pixels = true) (hacc : acc.wf Config.pixels = true) :
    { s with dst := dst, code := code, acc := acc }.complete.Inv :=
  State.Inv.complete { h with dst := hdst, code := hcode, acc := hacc } hbusy

theorem State.Inv.completeWithPack {s : State} (h : s.Inv) (hbusy : s.status.busy = true) {pack : Memory Byte}
    (hpack : pack.wf Config.packedBytes = true) : { s with pack := pack }.complete.Inv :=
  State.Inv.complete { h with pack := hpack } hbusy

theorem State.Inv.completeWithFrame {s : State} (h : s.Inv) (hbusy : s.status.busy = true) {feFrame : Memory Byte}
    {len : BitVec 9} (hframe : feFrame.wf Config.frameBytes = true) (hlen : 4 ≤ len.toNat ∧ len.toNat ≤ 257) :
    { s with feFrame := feFrame, feFrameLen := len }.complete.Inv :=
  State.Inv.complete { h with feFrame := hframe, frameLen := .inr hlen } hbusy

/-- DITHER fills DST, CODE and ACC with one element for each pixel of the raster. -/
theorem State.Inv.ditherRaster_complete {s : State} (h : s.Inv) (hbusy : s.status.busy = true) {raster : List Rgb}
    (hlen : raster.length = Config.pixels) : (ditherRaster raster s).complete.Inv := by
  have hout {α : Type} (f : Triple → α) :
      (Memory.ofList ((accFinal s.palette s.westEdge raster).toList.map f)).wf Config.pixels = true :=
    Memory.ofList_wf (by rw [List.length_map, Array.length_toList, accFinal_size, hlen])
  rw [ditherRaster]
  exact h.completeWithRasters hbusy (hout _) (hout _) (hout _)

theorem State.Inv.exec {s t : State} {i : Instr} (h : s.Inv) (hbusy : s.status.busy = true)
    (ht : exec i s = .next t) : t.Inv := by
  cases i with
  | nop =>
    cases ht
    exact h.complete hbusy
  | quantize =>
    cases ht
    exact State.Inv.complete { h with } hbusy
  | dither =>
    obtain ⟨-, heq⟩ | ⟨-, raster, hsrc, heq⟩ | ⟨-, p, -, heq⟩ := execDither_cases s <;> cases heq.symm.trans ht
    · exact h.raiseError hbusy nofun
    · exact h.ditherRaster_complete hbusy (srcOperand_ok_iff.1 hsrc).1
  | pack =>
    obtain ⟨-, heq⟩ | ⟨-, codes, -, heq⟩ | ⟨-, p, -, heq⟩ := execPack_cases s <;> cases heq.symm.trans ht
    · exact h.raiseError hbusy nofun
    · exact h.completeWithPack hbusy (Memory.ofList_wf (by rw [Array.length_toList, packRaster_size]))
  | encodeFrame =>
    obtain ⟨-, heq⟩ | ⟨hfits, payload, hpayload, heq⟩ | ⟨-, k, -, heq⟩ := execEncodeFrame_cases s <;>
      cases heq.symm.trans ht
    · have hcleared : { s with feFrameLen := 0 }.Inv := { h with frameLen := .inl rfl }
      exact hcleared.raiseError hbusy nofun
    · obtain ⟨hlen, -⟩ := payloadOperand_ok_iff.1 hpayload
      simp only [payloadTooLarge, decide_eq_false_iff_not] at hfits
      exact h.completeWithFrame hbusy (Memory.ofList_wf (by rw [frameBuffer_length (by omega)]))
        (by simp only [BitVec.toNat_ofNat]; omega)

theorem State.Inv.engineStep {s t : State} (h : s.Inv) (ht : engineStep s = .next t) : t.Inv := by
  obtain ⟨-, heq⟩ | ⟨hbusy, i, -, heq⟩ | ⟨hbusy, e, -, heq⟩ := engineStep_cases s
  · cases heq.symm.trans ht
    exact h
  · exact h.exec hbusy (heq.symm.trans ht)
  · cases heq.symm.trans ht
    exact h.raiseError hbusy nofun

/-! ### The step -/

theorem State.Inv.resetBlock {s : State} (h : s.Inv) (lost : Nat) : (resetBlock lost s).Inv :=
  { inv_resetWith h.palette with }

/-- Settles O56: a step is a turn of the host, a turn of the engine or a reset, and each keeps the invariant. -/
theorem stepKeepsTheInvariant : Obligations.StepKeepsTheInvariant := by
  intro s t h ht
  have hpop : s.popTurn.Inv := { h with }
  obtain ⟨-, ⟨-, hhost⟩ | ⟨-, hengine⟩ | ⟨lost, -, rfl⟩⟩ := step_next ht
  · exact hpop.hostStep hhost
  · exact hpop.engineStep hengine
  · exact hpop.resetBlock lost

end Sys2Proof.Machine
end

section
/-! SUPPORT. The block's agents: whose move a step is, what the host's loops do, who writes the result registers,
and what a command answers that reads an unwritten element. -/

open Sys2Proof.Claims

namespace Sys2Proof.Machine

/-! ### The palette and the step -/

/-- In a palette the model accepts, different colours have different triples (R131). -/
theorem paletteRgb_injective {p : Palette} (h : p.wellFormed = true) : Function.Injective (paletteRgb p) := by
  simp only [Palette.wellFormed, Bool.and_eq_true, bne_iff_ne] at h
  obtain ⟨⟨⟨⟨⟨hwb, hwr⟩, hwy⟩, hbr⟩, hby⟩, hry⟩ := h
  intro c c' heq
  cases c <;> cases c' <;> simp_all [paletteRgb]

theorem step_of_wellFormed {s : State} (h : s.palette.wellFormed = true) :
    step s = takeTurn s.nextTurn s.popTurn := by
  rw [step, stepTurn, if_pos h]

theorem step_of_not_wellFormed {s : State} (h : ¬s.palette.wellFormed = true) :
    step s = .refused .equalPaletteTriples := by
  rw [step, stepTurn, if_neg h]

/-- Settles O4: with an accepted palette a step is the turn of the agent that `nextTurn` names, and two colours with equal
triples are what an accepted palette excludes. -/
theorem stepIsOneMoveOfOneAgent : Obligations.StepIsOneMoveOfOneAgent := by
  refine ⟨fun s hpal => ?_, fun s lost => ⟨rfl, rfl⟩, fun s c c' hne heq => ?_⟩
  · rw [step_of_wellFormed hpal]
    cases s.nextTurn <;> rfl
  · exact step_of_not_wellFormed fun hpal => hne (paletteRgb_injective hpal heq)

theorem hostStep_nil {s : State} (h : s.hostProg = []) : hostStep s = .next s := by
  rw [hostStep, h]

theorem engineStep_idle {s : State} (h : s.status.busy = false) : engineStep s = .next s := by
  simp [engineStep, h]

/-- Settles O7: such a step is a turn of the host with nothing to do, or of an idle engine. -/
theorem idleBlockDoesNothing : Obligations.IdleBlockDoesNothing := by
  intro s hpal
  constructor
  · intro hturn hprog
    rw [step_of_wellFormed hpal, hturn]
    exact hostStep_nil hprog
  · intro hturn hidle
    rw [step_of_wellFormed hpal, hturn]
    exact engineStep_idle hidle

/-- Settles O48, one case of `hostStep` for each kind of action. -/
theorem hostLoopsWaitForTheBlock : Obligations.HostLoopsWaitForTheBlock := by
  intro s rest
  refine ⟨fun a h => ?_, fun a v h => ?_, fun h => ?_, fun h => ?_⟩ <;> simp only [hostStep, h]
  · rw [pollStatus_eq, h]
  · split <;> simp [← h]

/-! ### Who writes the results -/

/-- The result registers, the read-only RAMs, the hidden ACC and the palette: what only the engine or the build writes. -/
structure Results where
  qCode : Code
  feFrameLen : BitVec 9
  dst : Memory Rgb
  pack : Memory Byte
  feFrame : Memory Byte
  acc : Memory AccCell
  palette : Palette

/-- The results of a state. -/
def State.results (s : State) : Results :=
  { qCode := s.qCode, feFrameLen := s.feFrameLen, dst := s.dst, pack := s.pack, feFrame := s.feFrame, acc := s.acc
    palette := s.palette }

theorem writeReg_results (r : Reg) (v : Word) (s : State) : (writeReg r v s).results = s.results := by
  cases r <;> rfl

theorem writeWindow_results (w : Window) (k : Nat) (v : Word) (s : State) :
    (writeWindow w k v s).results = s.results := by
  cases w <;> rfl

theorem busWrite_results (a : Addr) (v : Word) (s : State) : (busWrite a v s).results = s.results := by
  obtain heq | ⟨r, -, -, heq⟩ | ⟨w, k, -, -, heq⟩ := busWrite_cases a v s <;> rw [heq]
  · rfl
  · exact writeReg_results r v s
  · exact writeWindow_results w k v s

theorem hostStep_results {s t : State} (h : hostStep s = .next t) : t.results = s.results := by
  obtain ⟨-, rfl⟩ | ⟨a, rest, -, hread⟩ | ⟨a, v, rest, -, rfl⟩ | ⟨rest, -, rfl⟩ | ⟨rest, -, rfl⟩ := hostStep_next h
  · rfl
  · obtain rfl | ⟨v, rfl⟩ := busRead_next hread <;> rfl
  · exact busWrite_results a v _
  · rw [pollStatus_eq]; rfl
  · split <;> rfl

/-- Settles O49: no turn of the host writes a field of `Results`. -/
theorem hostNeverWritesResults : Obligations.HostNeverWritesResults := by
  intro s t h
  simpa only [State.results, Results.mk.injEq] using hostStep_results h

theorem ditherRaster_qCode (raster : List Rgb) (s : State) : (ditherRaster raster s).qCode = s.qCode := by
  rw [ditherRaster]

/-- Of the five commands only QUANTIZE writes Q_CODE, and it ends with DONE (R30). -/
theorem exec_qCode {s t : State} {i : Instr} (h : exec i s = .next t) :
    t.qCode = s.qCode ∨ i = .quantize ∧ t.status.done = true := by
  cases i with
  | nop => cases h; exact .inl rfl
  | quantize => cases h; exact .inr ⟨rfl, rfl⟩
  | dither =>
    left
    obtain ⟨-, heq⟩ | ⟨-, raster, -, heq⟩ | ⟨-, p, -, heq⟩ := execDither_cases s <;> cases heq.symm.trans h
    · rfl
    · rw [State.complete_qCode, ditherRaster_qCode]
  | pack =>
    left
    obtain ⟨-, heq⟩ | ⟨-, codes, -, heq⟩ | ⟨-, p, -, heq⟩ := execPack_cases s <;> cases heq.symm.trans h
    · rfl
    · rw [State.complete_qCode]
  | encodeFrame =>
    left
    obtain ⟨-, heq⟩ | ⟨-, payload, -, heq⟩ | ⟨-, k, -, heq⟩ := execEncodeFrame_cases s <;> cases heq.symm.trans h
    · rfl
    · rw [State.complete_qCode]

/-- The engine writes Q_CODE only when it completes the word of QUANTIZE. -/
theorem engineStep_qCode {s t : State} (h : engineStep s = .next t) :
    t.qCode = s.qCode ∨ s.status.busy = true ∧ s.curCmd = encode .quantize ∧ t.status.done = true := by
  obtain ⟨-, heq⟩ | ⟨hbusy, i, hdec, heq⟩ | ⟨-, e, -, heq⟩ := engineStep_cases s
  · cases heq.symm.trans h
    exact .inl rfl
  · refine (exec_qCode (heq.symm.trans h)).imp_right ?_
    rintro ⟨rfl, hdone⟩
    exact ⟨hbusy, eq_encode_of_decode hdec, hdone⟩
  · cases heq.symm.trans h
    exact .inl rfl

/-- Settles O50: the host writes no result, and of the engine's completions only that of QUANTIZE writes Q_CODE. -/
theorem onlyQuantizeWritesQCode : Obligations.OnlyQuantizeWritesQCode := by
  intro s t h hne
  obtain ⟨-, ⟨-, hhost⟩ | ⟨hturn, hengine⟩ | ⟨lost, hturn, -⟩⟩ := step_next h
  · exact absurd (congrArg Results.qCode (hostStep_results hhost)) hne
  · obtain hsame | ⟨hbusy, hcmd, hdone⟩ := engineStep_qCode hengine
    · exact absurd hsame hne
    · exact .inl ⟨hturn, hbusy, hcmd, hdone⟩
  · exact .inr ⟨lost, hturn⟩

/-! ### Unwritten operands -/

theorem dimensionsOk_of_eq {s : State} (hw : s.rasterW = 250) (hh : s.rasterH = 124) : s.dimensionsOk = true := by
  simp [State.dimensionsOk, hw, hh]

/-- Settles O17: past the pre-flight check the operand read fails at the first unwritten element. -/
theorem unwrittenOperandFaults : Obligations.UnwrittenOperandFaults := by
  refine ⟨fun s p hw hh hp hnone hbelow => ?_, fun s p hw hh hp hnone hbelow => ?_, fun s k hfits hk hnone hbelow => ?_⟩
  · have hsrc : s.srcOperand = .error p := srcOperand_error_iff.2 ⟨hp, hnone, hbelow⟩
    simp only [exec, execDither, dimensionsOk_of_eq hw hh, hsrc, if_true]
  · have hcode : s.codeOperand = .error p := codeOperand_error_iff.2 ⟨hp, hnone, hbelow⟩
    simp only [exec, execPack, dimensionsOk_of_eq hw hh, hcode, if_true]
  · have hpayload : s.payloadOperand = .error k := payloadOperand_error_iff.2 ⟨hk, hnone, hbelow⟩
    have hlen : s.payloadTooLarge = false := decide_eq_false (by simp only [State.payloadLen]; omega)
    simp [exec, execEncodeFrame, hlen, hpayload]

end Sys2Proof.Machine
end

section
/-! SUPPORT. The port: what a write puts in each register, what the registers read as, and what an unwritten element
answers. -/

open Sys2Proof.Claims

namespace Sys2Proof.Machine

/-! ### What the registers hold and read as -/

/-- The low n bits of a word, zero-extended, are the word under a mask of n ones (R64). -/
theorem setWidth_lowBits (n : Nat) (v : Word) :
    (v.extractLsb' 0 n).setWidth 32 = v &&& BitVec.ofNat 32 (2 ^ n - 1) := by
  refine BitVec.eq_of_getLsbD_eq fun i hi => ?_
  simp only [BitVec.getLsbD_setWidth, BitVec.getLsbD_extractLsb', BitVec.getLsbD_and, BitVec.getLsbD_ofNat,
    Nat.testBit_two_pow_sub_one, Nat.zero_add, hi, decide_true, Bool.true_and, Bool.and_comm]

/-- The pixel of a word reads back as the word with bits [31:24] 0 (R65). -/
theorem pixelToWord_pixelOfWord (v : Word) : pixelToWord (pixelOfWord v) = v &&& 0x00FFFFFF := by
  refine Eq.trans (BitVec.eq_of_getLsbD_eq fun i hi => ?_) (setWidth_lowBits 24 v)
  simp only [pixelToWord, pixelOfWord, BitVec.getLsbD_append, BitVec.getLsbD_setWidth, BitVec.getLsbD_extractLsb',
    BitVec.getLsbD_zero]
  grind

/-- INT_EN reads back as the word written with its reserved bits 0 (R25). -/
theorem IntEn.toWord_ofWord (v : Word) : (IntEn.ofWord v).toWord = v &&& 0x00000007 := by
  refine Eq.trans (BitVec.eq_of_getLsbD_eq fun i hi => ?_) (setWidth_lowBits 3 v)
  simp only [IntEn.toWord, IntEn.ofWord, BitVec.getLsbD_append, BitVec.getLsbD_setWidth, BitVec.getLsbD_extractLsb',
    BitVec.getLsbD_zero, BitVec.getLsbD_ofBool]
  grind

/-- CONFIG is write-any-read-legal: the field value 3 leaves the policy as it was (R26). -/
theorem westEdgeBits_written (old : WestEdge) (v : Word) :
    westEdgeBits (westEdgeWritten old v) =
      if v.extractLsb' 0 2 = 3#2 then westEdgeBits old else v.extractLsb' 0 2 := by
  unfold westEdgeWritten
  generalize v.extractLsb' 0 2 = field
  revert field
  cases old <;> decide

/-- The policy that each field value of a CONFIG write selects (R26). -/
theorem westEdgeWritten_values (old : WestEdge) (v : Word) :
    (v.extractLsb' 0 2 = 0#2 → westEdgeWritten old v = .skip) ∧
    (v.extractLsb' 0 2 = 1#2 → westEdgeWritten old v = .clamp) ∧
    (v.extractLsb' 0 2 = 2#2 → westEdgeWritten old v = .wrap) ∧
    (v.extractLsb' 0 2 = 3#2 → westEdgeWritten old v = old) := by
  unfold westEdgeWritten
  generalize v.extractLsb' 0 2 = field
  revert field
  cases old <;> decide

/-- The word CONFIG reads as after a write (R26). -/
theorem config_readBack (old : WestEdge) (v : Word) :
    (westEdgeBits (westEdgeWritten old v)).setWidth 32 =
      if v &&& 0x00000003 = 0x00000003 then (westEdgeBits old).setWidth 32 else v &&& 0x00000003 := by
  have hmask : (v.extractLsb' 0 2).setWidth 32 = v &&& 0x00000003 := setWidth_lowBits 2 v
  have hthree : v.extractLsb' 0 2 = 3#2 ↔ v &&& 0x00000003 = 0x00000003 := by
    rw [← hmask]
    generalize v.extractLsb' 0 2 = field
    revert field
    decide
  simp only [westEdgeBits_written, hthree, apply_ite (BitVec.setWidth 32), hmask]

/-- The write-1-to-clear of R24, flag by flag. -/
theorem statusAfterWrite_eq (f : Status) (v : Word) : statusAfterWrite f v = f.writeOneToClear v := by
  simp [statusAfterWrite, Status.writeOneToClear, Bool.and_comm]

/-! ### Accepted accesses -/

/-- A write to a register that is not frozen is accepted (R71). -/
theorem busWrite_register {a : Addr} {r : Reg} (v : Word) {s : State} (ha : decodeAddress a = .register r)
    (h : (s.status.busy && frozenWhileBusy r) = false) : busWrite a v s = (writeReg r v s).returnNothing := by
  simp [busWrite, ha, h]

theorem busWrite_regAddress_idle (r : Reg) (v : Word) {s : State} (h : s.status.busy = false) :
    busWrite (regAddress r) v s = (writeReg r v s).returnNothing :=
  busWrite_register v (decodeAddress_regAddress r) (by rw [h, Bool.false_and])

/-- A read of a window while idle faults when the window's word does (R42). -/
theorem busRead_window_error {w : Window} {k : Nat} {s : State} {f : Fault} (hk : k < w.words)
    (hidle : s.status.busy = false) (h : readWindow w k s = .error f) :
    busRead (windowAddress w k) s = .fault f := by
  simp [busRead_element s (decodeAddress_windowAddress hk), hidle, h]

theorem readElement_error {α : Type} {w : Window} {m : Memory α} {i : Nat} (h : m.read i = none) :
    readElement w m i = .error (.unwrittenRead w i) := by
  simp only [readElement, h]

theorem map_readElement_error {α β : Type} {w : Window} {m : Memory α} {i : Nat} (f : α → β) (h : m.read i = none) :
    (readElement w m i).map f = .error (.unwrittenRead w i) := by
  rw [readElement_error h]
  rfl

theorem ok_of_bind_eq_ok {ε α β : Type} {x : Except ε α} {f : α → Except ε β} {b : β} (h : (x >>= f) = .ok b) :
    ∃ a, x = .ok a ∧ f a = .ok b := by
  cases x with
  | error e => cases h
  | ok a => exact ⟨a, rfl, h⟩

/-- A word of a byte window has a value only when each of its four lanes has one (R67). -/
theorem lanes_of_readByteWord {w : Window} {size j : Nat} {m : Memory Byte} {v : Word}
    (h : readByteWord w size m j = .ok v) : ∃ b0 b1 b2 b3,
      readLane w size m (4 * j) = .ok b0 ∧ readLane w size m (4 * j + 1) = .ok b1 ∧
      readLane w size m (4 * j + 2) = .ok b2 ∧ readLane w size m (4 * j + 3) = .ok b3 ∧
      v = wordOfBytes b0 b1 b2 b3 := by
  obtain ⟨b0, h0, h⟩ := ok_of_bind_eq_ok h
  obtain ⟨b1, h1, h⟩ := ok_of_bind_eq_ok h
  obtain ⟨b2, h2, h⟩ := ok_of_bind_eq_ok h
  obtain ⟨b3, h3, h⟩ := ok_of_bind_eq_ok h
  exact ⟨b0, b1, b2, b3, h0, h1, h2, h3, (Except.ok.inj h).symm⟩

/-- A word of a byte window that holds an unwritten byte has no value (R42, R67). -/
theorem readByteWord_error {w : Window} {size i : Nat} {m : Memory Byte} (hi : i < size) (h : m.read i = none) :
    ∃ f, readByteWord w size m (i / 4) = .error f := by
  have hlane (b : Byte) : readLane w size m i ≠ .ok b := by
    rw [readLane, if_pos hi, readElement_error h]
    nofun
  cases hword : readByteWord w size m (i / 4) with
  | error f => exact ⟨f, rfl⟩
  | ok v =>
    obtain ⟨b0, b1, b2, b3, h0, h1, h2, h3, -⟩ := lanes_of_readByteWord hword
    obtain hb | hb | hb | hb : i = 4 * (i / 4) ∨ i = 4 * (i / 4) + 1 ∨ i = 4 * (i / 4) + 2 ∨ i = 4 * (i / 4) + 3 := by
      omega
    · exact absurd h0 (hb ▸ hlane b0)
    · exact absurd h1 (hb ▸ hlane b1)
    · exact absurd h2 (hb ▸ hlane b2)
    · exact absurd h3 (hb ▸ hlane b3)

/-- Settles O47: an unwritten element has no word, and an unwritten byte leaves its word of the window without a value. -/
theorem hostReadOfUnwrittenFaults : Obligations.HostReadOfUnwrittenFaults := by
  intro s k hidle
  refine ⟨fun hk h => ?_, fun hk h => ?_, fun hk h => ?_, fun hk h => ?_, fun hk h => ?_, fun hk h => ?_⟩
  · exact busRead_window_error (w := .src) hk hidle (map_readElement_error _ h)
  · exact busRead_window_error (w := .dst) hk hidle (map_readElement_error _ h)
  · exact busRead_window_error (w := .code) hk hidle (map_readElement_error _ h)
  · obtain ⟨f, hf⟩ := readByteWord_error (w := .pack) hk h
    exact ⟨f, busRead_window_error (w := .pack) (by simp only [Window.words]; omega) hidle hf⟩
  · obtain ⟨f, hf⟩ := readByteWord_error (w := .fePayload) hk h
    exact ⟨f, busRead_window_error (w := .fePayload) (by simp only [Window.words]; omega) hidle hf⟩
  · obtain ⟨f, hf⟩ := readByteWord_error (w := .feFrame) hk h
    exact ⟨f, busRead_window_error (w := .feFrame) (by simp only [Window.words]; omega) hidle hf⟩

/-- Settles O42: STATUS bit by bit, CLEAR as the acknowledgement of 0x0000000E, and `irq` as the OR that defines it. -/
theorem statusWordClearAndIrq : Obligations.StatusWordClearAndIrq := by
  refine ⟨fun s => ?_, fun s => ?_, fun s lost => rfl⟩
  · have hclear : busWrite 0x00008#20 0x0000000E s = (s.acknowledge 0x0000000E).returnNothing :=
      busWrite_register _ (decodeAddress_regAddress .status) (Bool.and_false _)
    have hstatus : s.status.writeOneToClear 0x0000000E =
        { busy := s.status.busy, done := false, err := false, errCode := .none, accessErr := false } := by
      simp [Status.writeOneToClear]
    refine ⟨s.status.toWord_busy, s.status.toWord_done, s.status.toWord_err, s.status.toWord_accessErr, ?_,
      s.status.toWord_reserved, ?_, ?_⟩
    · rw [Status.toWord_errCode]
      cases s.status.errCode <;> rfl
    · rw [hclear, State.returnNothing_status, State.acknowledge_status, hstatus]
    · rw [hclear, State.irq, State.returnNothing_status, State.acknowledge_status, hstatus]
      rfl
  · simp only [State.irq, Bool.or_eq_true, Bool.and_eq_true, or_assoc]

/-- Settles O43: while idle every register write is `writeReg`, and each register's read-back is a lemma on words. -/
theorem registerWritesReadBack : Obligations.RegisterWritesReadBack := by
  intro s v hidle
  have hwrite (r : Reg) : busWrite (regAddress r) v s = (writeReg r v s).returnNothing :=
    busWrite_regAddress_idle r v hidle
  have hstatus : busWrite 0x00008#20 v s = (writeReg .status v s).returnNothing := hwrite .status
  have hintEn : busWrite 0x0000C#20 v s = (writeReg .intEn v s).returnNothing := hwrite .intEn
  have hconfig : busWrite 0x00010#20 v s = (writeReg .config v s).returnNothing := hwrite .config
  have hrasterW : busWrite 0x00014#20 v s = (writeReg .rasterW v s).returnNothing := hwrite .rasterW
  have hrasterH : busWrite 0x00018#20 v s = (writeReg .rasterH v s).returnNothing := hwrite .rasterH
  have hqRgb : busWrite 0x0001C#20 v s = (writeReg .qRgb v s).returnNothing := hwrite .qRgb
  have hfeCmdId : busWrite 0x00024#20 v s = (writeReg .feCmdId v s).returnNothing := hwrite .feCmdId
  have hlen : busWrite 0x00028#20 v s = (writeReg .fePayloadLen v s).returnNothing := hwrite .fePayloadLen
  obtain ⟨hskip, hclamp, hwrap, hkeep⟩ := westEdgeWritten_values s.westEdge v
  rw [hstatus, hintEn, hconfig, hrasterW, hrasterH, hqRgb, hfeCmdId, hlen]
  refine ⟨?_, ⟨rfl, IntEn.toWord_ofWord v⟩, ⟨rfl, hskip, hclamp, hwrap, hkeep, config_readBack _ v⟩, ⟨rfl, setWidth_lowBits 16 v⟩,
    ⟨rfl, setWidth_lowBits 16 v⟩, ⟨rfl, pixelToWord_pixelOfWord v⟩, ⟨rfl, setWidth_lowBits 8 v⟩,
    ⟨rfl, setWidth_lowBits 8 v⟩, ?_, rfl, rfl, BitVec.setWidth_eq_append (by decide),
    BitVec.setWidth_eq_append (by decide), rfl, rfl, rfl, rfl⟩
  · rw [statusAfterWrite_eq]
    rfl
  · intro r hr
    change isIgnoredWriteOf s (busWrite (regAddress r) v s)
    rw [hwrite r]
    fin_cases hr <;> rfl

end Sys2Proof.Machine
end

section
/-! SUPPORT. The RAM windows and the registers at the port: where each stands in the address map, which accesses are
rejected, and what an accepted access reads, writes and leaves as it was. -/

open Sys2Proof.Claims

namespace Sys2Proof.Machine

/-! ### The address map -/

/-- Settles O38: the windows by `decodeAddress_windowAddress`, the registers by `decodeAddress_regAddress`. -/
theorem addressMapIsTheTable : Obligations.AddressMapIsTheTable := by
  refine ⟨fun k hk => ⟨?_, ?_, ?_⟩, fun k hk => ?_, fun k hk => ?_, fun k hk => ?_, ?_⟩
  · exact decodeAddress_windowAddress (w := .src) hk
  · exact decodeAddress_windowAddress (w := .dst) hk
  · exact decodeAddress_windowAddress (w := .code) hk
  · exact decodeAddress_windowAddress (w := .pack) hk
  · exact decodeAddress_windowAddress (w := .fePayload) hk
  · exact decodeAddress_windowAddress (w := .feFrame) hk
  · have hregs : (registers.map regAddress).map decodeAddress = registers.map .register := by
      simp only [List.map_map, Function.comp_def, decodeAddress_regAddress]
    exact hregs

theorem decodeAddress_misaligned {a : Addr} (h : a.toNat % 4 ≠ 0) : decodeAddress a = .misaligned := by
  rw [decodeAddress, if_pos h]

/-- The ranges between and above the windows name nothing (R63). -/
theorem decodeAddress_unmapped {a : Addr} (haligned : a.toNat % 4 = 0) (h : unmapped a.toNat) :
    decodeAddress a = .unmapped := by
  have hreg : registers[a.toNat / 4]? = none :=
    List.getElem?_eq_none (by
      simp only [registers, List.length_cons, List.length_nil]
      simp only [unmapped] at h
      omega)
  have hwin : windows.find? (fun w => decide (windowBase w ≤ a.toNat ∧ a.toNat < windowBase w + 4 * w.words)) =
      none := by
    refine List.find?_eq_none.2 fun w _ => ?_
    simp only [decide_eq_true_eq]
    simp only [unmapped] at h
    cases w <;> simp only [windowBase, Window.words] <;> omega
  simp only [decodeAddress, hreg, hwin, if_neg (not_not_intro haligned)]

/-! ### Rejected and ignored accesses -/

theorem isRejectedWriteOf_rejectWrite (s : State) : isRejectedWriteOf s s.rejectWrite := rfl

/-- A read at an address that names nothing is rejected (R61, R63). -/
theorem busRead_of_no_target {a : Addr} (s : State) (h : decodeAddress a = .misaligned ∨ decodeAddress a = .unmapped) :
    busRead a s = .next s.rejectRead := by
  obtain h | h := h <;> simp only [busRead, h]

/-- A write at an address that names nothing is rejected (R61, R63). -/
theorem busWrite_of_no_target {a : Addr} (v : Word) (s : State)
    (h : decodeAddress a = .misaligned ∨ decodeAddress a = .unmapped) : busWrite a v s = s.rejectWrite := by
  obtain h | h := h <;> simp only [busWrite, h]

/-- Settles O39: alignment is checked first, and an aligned address in a gap of the map names nothing. -/
theorem misalignedAndUnmappedAreRejected : Obligations.MisalignedAndUnmappedAreRejected := by
  intro a v s h
  have hnone : decodeAddress a = .misaligned ∨ decodeAddress a = .unmapped := by
    by_cases haligned : a.toNat % 4 = 0
    · exact .inr (decodeAddress_unmapped haligned (h.resolve_left (not_not_intro haligned)))
    · exact .inl (decodeAddress_misaligned haligned)
  rw [busWrite_of_no_target v s hnone]
  exact ⟨busRead_of_no_target s hnone, isRejectedWriteOf_rejectWrite s⟩

theorem busWrite_element {a : Addr} {w : Window} {k : Nat} (v : Word) (s : State) (h : decodeAddress a = .element w k) :
    busWrite a v s = if s.status.busy then s.rejectWrite else (writeWindow w k v s).returnNothing := by
  simp only [busWrite, h]

/-- Settles O40: every window address names an element, and an element is out of reach while BUSY. -/
theorem busyRamAccessIsRejected : Obligations.BusyRamAccessIsRejected := by
  intro w k v s hk hbusy
  have hread := busRead_element s (decodeAddress_windowAddress hk)
  have hwrite := busWrite_element v s (decodeAddress_windowAddress hk)
  rw [hbusy, if_pos rfl] at hread hwrite
  exact ⟨hread, hwrite ▸ isRejectedWriteOf_rejectWrite s⟩

/-- A write while BUSY to CMD or to an operand register is rejected (R71). -/
theorem busWrite_frozen {r : Reg} (v : Word) {s : State} (hbusy : s.status.busy = true)
    (hr : frozenWhileBusy r = true) : busWrite (regAddress r) v s = s.rejectWrite := by
  simp [busWrite, hbusy, hr]

/-- A write to a register that is never frozen is accepted, BUSY or not (R71). -/
theorem busWrite_unfrozen {r : Reg} (v : Word) (s : State) (hr : frozenWhileBusy r = false) :
    busWrite (regAddress r) v s = (writeReg r v s).returnNothing :=
  busWrite_register v (decodeAddress_regAddress r) (by rw [hr, Bool.and_false])

/-- Settles O41: reads never depend on BUSY, and of the writes only those to a frozen register do. -/
theorem registerAccessWhileBusy : Obligations.RegisterAccessWhileBusy := by
  refine ⟨fun s r => busRead_register s (decodeAddress_regAddress r), fun s v hbusy => ⟨fun r hr => ?_, fun r hr => ?_⟩,
    fun s v => ⟨?_, ?_⟩⟩
  · have hfrozen : frozenWhileBusy r = true := by revert r; decide
    exact busWrite_frozen v hbusy hfrozen ▸ isRejectedWriteOf_rejectWrite s
  · have hunfrozen : frozenWhileBusy r = false := by revert r; decide
    change isIgnoredWriteOf s (busWrite (regAddress r) v s)
    rw [busWrite_unfrozen v s hunfrozen]
    fin_cases hr <;> rfl
  · have hwrite : busWrite 0x0000C#20 v s = (writeReg .intEn v s).returnNothing :=
      busWrite_unfrozen (r := .intEn) v s rfl
    rw [hwrite]
    rfl
  · have hwrite : busWrite 0x00008#20 v s = (writeReg .status v s).returnNothing :=
      busWrite_unfrozen (r := .status) v s rfl
    rw [hwrite, statusAfterWrite_eq]
    rfl

/-! ### Accepted accesses to the windows -/

/-- A write to a window while idle is accepted (R65 to R68). -/
theorem busWrite_window_idle {w : Window} {k : Nat} (v : Word) {s : State} (hk : k < w.words)
    (hidle : s.status.busy = false) : busWrite (windowAddress w k) v s = (writeWindow w k v s).returnNothing := by
  rw [busWrite_element v s (decodeAddress_windowAddress hk), hidle, if_neg Bool.false_ne_true]

/-- A read of a window while idle returns the window's word. -/
theorem busRead_window_ok {w : Window} {k : Nat} {s : State} {v : Word} (hk : k < w.words)
    (hidle : s.status.busy = false) (h : readWindow w k s = .ok v) :
    busRead (windowAddress w k) s = .next (s.returnWord v) := by
  simp [busRead_element s (decodeAddress_windowAddress hk), hidle, h]

/-- Settles O46: `writeWindow` leaves the state as it is for each of the three windows. -/
theorem readOnlyWindowsIgnoreWrites : Obligations.ReadOnlyWindowsIgnoreWrites := by
  intro w k v s hw hk hidle
  have hwrite := busWrite_window_idle v hk hidle
  obtain rfl | rfl | rfl := hw <;> exact hwrite ▸ rfl

/-- The word of a written pixel or code (R65, R66). -/
theorem map_readElement_ok {α β : Type} {w : Window} {m : Memory α} {i : Nat} {c : α} (f : α → β)
    (h : m.read i = some c) : (readElement w m i).map f = .ok (f c) := by
  simp only [readElement, h]
  rfl

/-- The byte in a lane that holds a written byte (R67). -/
theorem readLane_ok {w : Window} {size i : Nat} {m : Memory Byte} {b : Byte} (hi : i < size) (h : m.read i = some b) :
    readLane w size m i = .ok b := by
  simp only [readLane, if_pos hi, readElement, h]

/-- A lane past the end of the byte array reads 0 (R67). -/
theorem readLane_past {w : Window} {size i : Nat} {m : Memory Byte} (hi : size ≤ i) : readLane w size m i = .ok 0 := by
  rw [readLane, if_neg (Nat.not_lt.2 hi)]

/-- A word of a byte window is made of its four lanes (R67). -/
theorem readByteWord_of_lanes {w : Window} {size j : Nat} {m : Memory Byte} {b0 b1 b2 b3 : Byte}
    (h0 : readLane w size m (4 * j) = .ok b0) (h1 : readLane w size m (4 * j + 1) = .ok b1)
    (h2 : readLane w size m (4 * j + 2) = .ok b2) (h3 : readLane w size m (4 * j + 3) = .ok b3) :
    readByteWord w size m j = .ok (b3 ++ b2 ++ b1 ++ b0 : BitVec 32) := by
  simp only [readByteWord, h0, h1, h2, h3]
  rfl

/-- The word of four written bytes, little-endian in its lanes (R67). -/
theorem readByteWord_ok {w : Window} {size j : Nat} {m : Memory Byte} {b0 b1 b2 b3 : Byte} (hj : 4 * j + 3 < size)
    (h0 : m.read (4 * j) = some b0) (h1 : m.read (4 * j + 1) = some b1) (h2 : m.read (4 * j + 2) = some b2)
    (h3 : m.read (4 * j + 3) = some b3) : readByteWord w size m j = .ok (b3 ++ b2 ++ b1 ++ b0 : BitVec 32) :=
  readByteWord_of_lanes (readLane_ok (by omega) h0) (readLane_ok (by omega) h1) (readLane_ok (by omega) h2)
    (readLane_ok hj h3)

/-- PACK_RAM has 7750 bytes, so lanes 2 and 3 of its last word, 1937, stand for no byte and read 0 (R67). -/
theorem readByteWord_pack_last {m : Memory Byte} {b0 b1 : Byte} (h0 : m.read 7748 = some b0)
    (h1 : m.read 7749 = some b1) :
    readByteWord .pack Config.packedBytes m 1937 = .ok (0#16 ++ b1 ++ b0 : BitVec 32) := by
  have hzeros : 0#8 ++ 0#8 = 0#16 := rfl
  rw [← hzeros]
  exact readByteWord_of_lanes (readLane_ok (by decide) h0) (readLane_ok (by decide) h1) (readLane_past (by decide))
    (readLane_past (by decide))

/-- Settles O45: an accepted read of a window returns the word that `readWindow` forms of its elements. -/
theorem windowsReadTheirElements : Obligations.WindowsReadTheirElements := by
  refine ⟨fun s k hidle hk => ⟨fun c h => ?_, fun c h => ?_, fun c h => ?_⟩,
    fun s j b0 b1 b2 b3 hidle => ⟨fun hj h0 h1 h2 h3 => ?_, fun h0 h1 => ?_, fun hj h0 h1 h2 h3 => ?_,
      fun hj h0 h1 h2 h3 => ?_⟩⟩
  · exact busRead_window_ok (w := .src) hk hidle (map_readElement_ok _ h)
  · exact busRead_window_ok (w := .dst) hk hidle (map_readElement_ok _ h)
  · have hword : codeToWord c = (0#30 ++ c : BitVec 32) := BitVec.setWidth_eq_append (by decide)
    exact hword ▸ busRead_window_ok (w := .code) hk hidle (map_readElement_ok _ h)
  · exact busRead_window_ok (w := .pack) (Nat.lt_succ_of_lt hj) hidle
      (readByteWord_ok (by simp only [Config.packedBytes]; omega) h0 h1 h2 h3)
  · exact busRead_window_ok (w := .pack) (by decide) hidle (readByteWord_pack_last h0 h1)
  · exact busRead_window_ok (w := .fePayload) hj hidle
      (readByteWord_ok (by simp only [Config.payloadBytes]; omega) h0 h1 h2 h3)
  · exact busRead_window_ok (w := .feFrame) hj hidle
      (readByteWord_ok (by simp only [Config.frameBytes]; omega) h0 h1 h2 h3)

/-- Byte i of a written word is in lane i (R67). -/
theorem read_writeByteWord_lane (m : Memory Byte) (j : Nat) (v : Word) {i : Nat} (hi : i < 4) :
    (writeByteWord m j v).read (4 * j + i) = some (byteLane v i) := by
  interval_cases i <;> simp [writeByteWord, Memory.read_write]

/-- A word write leaves the bytes of the other words as they were (R67). -/
theorem read_writeByteWord_other (m : Memory Byte) {i j : Nat} (v : Word) (h : i / 4 ≠ j) :
    (writeByteWord m j v).read i = m.read i := by
  rw [writeByteWord, Memory.read_write_other _ _ (by omega), Memory.read_write_other _ _ (by omega),
    Memory.read_write_other _ _ (by omega), Memory.read_write_other _ _ (by omega)]

/-- A word is its four byte lanes (R67). -/
theorem wordOfBytes_byteLane (v : Word) :
    wordOfBytes (byteLane v 0) (byteLane v 1) (byteLane v 2) (byteLane v 3) = v := by
  refine BitVec.eq_of_getLsbD_eq fun i hi => ?_
  simp only [wordOfBytes, byteLane, BitVec.getLsbD_append, BitVec.getLsbD_extractLsb']
  grind

/-- A payload word reads back as it was written (R67). -/
theorem readByteWord_writeByteWord {w : Window} {size j : Nat} (m : Memory Byte) (v : Word) (hj : 4 * j + 3 < size) :
    readByteWord w size (writeByteWord m j v) j = .ok v := by
  have hlane {i : Nat} (hi : i < 4) := read_writeByteWord_lane m j v hi
  have hword := readByteWord_ok (w := w) hj (hlane (i := 0) (by decide)) (hlane (i := 1) (by decide))
    (hlane (i := 2) (by decide)) (hlane (i := 3) (by decide))
  exact hword.trans (congrArg _ (wordOfBytes_byteLane v))

/-- Settles O44: while idle a write is `writeWindow`, and each window's read-back is a law of its RAM and word format. -/
theorem ramWritesReadBack : Obligations.RamWritesReadBack := by
  intro s v k hidle
  refine ⟨fun hk => ?_, fun hk => ?_, fun hk => ?_⟩
  · have hwrite : busWrite (BitVec.ofNat 20 (0x20000 + 4 * k)) v s = (writeWindow .src k v s).returnNothing :=
      busWrite_window_idle (w := .src) v hk hidle
    rw [hwrite]
    refine ⟨?_, rfl, fun j hj => Memory.read_write_other _ _ hj⟩
    rw [← pixelToWord_pixelOfWord]
    exact busRead_window_ok (w := .src) hk hidle (map_readElement_ok _ (Memory.read_write_same _ _ _))
  · have hwrite : busWrite (BitVec.ofNat 20 (0x60000 + 4 * k)) v s = (writeWindow .code k v s).returnNothing :=
      busWrite_window_idle (w := .code) v hk hidle
    have hword : codeToWord (codeOfWord v) = v &&& 0x00000003 := setWidth_lowBits 2 v
    rw [hwrite]
    refine ⟨?_, rfl, fun j hj => Memory.read_write_other _ _ hj⟩
    rw [← hword]
    exact busRead_window_ok (w := .code) hk hidle (map_readElement_ok _ (Memory.read_write_same _ _ _))
  · have hwrite : busWrite (BitVec.ofNat 20 (0x82000 + 4 * k)) v s = (writeWindow .fePayload k v s).returnNothing :=
      busWrite_window_idle (w := .fePayload) v hk hidle
    rw [hwrite]
    refine ⟨?_, rfl, fun i hi => read_writeByteWord_lane _ _ _ hi, fun j hj => read_writeByteWord_other _ _ hj⟩
    exact busRead_window_ok (w := .fePayload) hk hidle
      (readByteWord_writeByteWord _ v (by simp only [Config.payloadBytes]; omega))

end Sys2Proof.Machine
end

section
/-! SUPPORT. The host while a command runs: what its turn can change, and that the completion step neither reads nor
writes any of that. -/

open Sys2Proof.Claims

namespace Sys2Proof.Machine

/-! ### A turn of the host while BUSY -/

/-- What a turn of the host while BUSY does: t is s but for INT_EN, the model's own record of the port, and STATUS, in
which a rejected access sets ACCESS_ERR and a write clears flags. -/
structure State.PortOnly (s t : State) : Prop where
  frame : t = { s with status := t.status, intEn := t.intEn, busData := t.busData, hostProg := t.hostProg }
  status : t.status = s.status ∨ t.status = s.status.rejected ∨ ∃ v, t.status = s.status.writeOneToClear v

theorem State.PortOnly.busy {s t : State} (h : s.PortOnly t) : t.status.busy = s.status.busy := by
  obtain hst | hst | ⟨v, hst⟩ := h.status <;> simp [hst]

theorem writeReg_portOnly {r : Reg} (v : Word) (s : State) (hr : frozenWhileBusy r = false) :
    s.PortOnly (writeReg r v s) := by
  cases r with
  | status => exact ⟨rfl, .inr (.inr ⟨v, rfl⟩)⟩
  | intEn | id | qCode | feFrameLen | palWhite | palBlack | palRed | palYellow => exact ⟨rfl, .inl rfl⟩
  | cmd | config | rasterW | rasterH | qRgb | feCmdId | fePayloadLen => cases hr

theorem busWrite_portOnly (a : Addr) (v : Word) {s : State} (hbusy : s.status.busy = true) :
    s.PortOnly (busWrite a v s) := by
  obtain heq | ⟨r, -, hr, heq⟩ | ⟨w, k, -, hidle, -⟩ := busWrite_cases a v s
  · exact heq ▸ ⟨rfl, .inr (.inl rfl)⟩
  · have h := writeReg_portOnly v s (hr hbusy)
    rw [heq]
    exact ⟨congrArg State.returnNothing h.frame, h.status⟩
  · cases hbusy.symm.trans hidle

theorem busRead_portOnly {a : Addr} {s t : State} (h : busRead a s = .next t) : s.PortOnly t := by
  obtain rfl | ⟨v, rfl⟩ := busRead_next h
  · exact ⟨rfl, .inr (.inl rfl)⟩
  · exact ⟨rfl, .inl rfl⟩

theorem hostStep_portOnly {s t : State} (hbusy : s.status.busy = true) (h : hostStep s = .next t) : s.PortOnly t := by
  obtain ⟨-, rfl⟩ | ⟨a, rest, -, hread⟩ | ⟨a, v, rest, -, rfl⟩ | ⟨rest, -, rfl⟩ | ⟨rest, -, rfl⟩ := hostStep_next h
  · exact ⟨rfl, .inl rfl⟩
  · have hport := busRead_portOnly hread
    exact ⟨hport.frame, hport.status⟩
  · have hport := busWrite_portOnly a v (s := { s with hostProg := rest }) hbusy
    exact ⟨hport.frame, hport.status⟩
  · rw [pollStatus_eq]
    exact ⟨rfl, .inl rfl⟩
  · split <;> exact ⟨rfl, .inl rfl⟩

/-- While BUSY a read never reaches a RAM, so it answers (R70, R71). -/
theorem busRead_answers_busy (a : Addr) {s : State} (hbusy : s.status.busy = true) : ∃ t, busRead a s = .next t := by
  cases ha : decodeAddress a with
  | misaligned => exact ⟨_, busRead_of_no_target s (.inl ha)⟩
  | unmapped => exact ⟨_, busRead_of_no_target s (.inr ha)⟩
  | register r => exact ⟨_, busRead_register s ha⟩
  | element w k => exact ⟨s.rejectRead, by rw [busRead_element s ha, hbusy, if_pos rfl]⟩

theorem hostStep_answers_busy {s : State} (hbusy : s.status.busy = true) : ∃ t, hostStep s = .next t := by
  unfold hostStep
  split
  · exact ⟨_, rfl⟩
  · exact busRead_answers_busy _ hbusy
  · exact ⟨_, rfl⟩
  · exact ⟨_, rfl⟩
  · exact ⟨_, rfl⟩

/-- Settles O51: while BUSY a turn of the host answers, and what it answers is `State.PortOnly`. -/
theorem busyFreezesTheBlock : Obligations.BusyFreezesTheBlock := by
  intro s hbusy
  obtain ⟨t, ht⟩ := hostStep_answers_busy hbusy
  have hport := hostStep_portOnly hbusy ht
  exact ⟨t, ht, hport.busy.trans hbusy, hport.frame⟩

/-! ### The completion step and the host -/

/-- s with ACCESS_ERR, INT_EN and the model's own record of the port as the host left them in p. -/
def State.withPortOf (s p : State) : State :=
  { s with
    status := { s.status with accessErr := p.status.accessErr }
    intEn := p.intEn
    busData := p.busData
    hostProg := p.hostProg }

/-- The answer with `f` done to the next state, if there is one. -/
def onNext (f : State → State) : Result → Result
  | .next s => .next (f s)
  | .fault e => .fault e
  | .refused e => .refused e

theorem State.complete_withPortOf (s p : State) : (s.withPortOf p).complete = s.complete.withPortOf p := rfl

/-- The rasters that DITHER writes depend on PALETTE and CONFIG alone beside the source raster (R94). -/
theorem ditherRaster_withPortOf (raster : List Rgb) (s p : State) :
    ditherRaster raster (s.withPortOf p) = (ditherRaster raster s).withPortOf p := by
  have hpal : (s.withPortOf p).palette = s.palette := rfl
  have hedge : (s.withPortOf p).westEdge = s.westEdge := rfl
  rw [ditherRaster, ditherRaster, hpal, hedge]
  generalize accFinal s.palette s.westEdge raster = out
  rfl

/-- DITHER neither reads nor writes what the host may change while BUSY (R94). -/
theorem execDither_withPortOf (s p : State) :
    execDither (s.withPortOf p) = onNext (·.withPortOf p) (execDither s) := by
  have hdim : (s.withPortOf p).dimensionsOk = s.dimensionsOk := rfl
  have hsrc : (s.withPortOf p).srcOperand = s.srcOperand := rfl
  rw [execDither, execDither, hdim, hsrc]
  cases s.dimensionsOk with
  | false => rfl
  | true =>
    cases s.srcOperand with
    | error e => rfl
    | ok raster => simp only [if_true, ditherRaster_withPortOf, onNext, State.complete_withPortOf]

/-- PACK neither reads nor writes what the host may change while BUSY (R94). -/
theorem execPack_withPortOf (s p : State) : execPack (s.withPortOf p) = onNext (·.withPortOf p) (execPack s) := by
  have hdim : (s.withPortOf p).dimensionsOk = s.dimensionsOk := rfl
  have hcode : (s.withPortOf p).codeOperand = s.codeOperand := rfl
  rw [execPack, execPack, hdim, hcode]
  cases s.dimensionsOk with
  | false => rfl
  | true =>
    cases s.codeOperand with
    | error e => rfl
    | ok codes => simp only [if_true, onNext, State.complete, State.withPortOf, Status.completed]

/-- ENCODE_FRAME neither reads nor writes what the host may change while BUSY (R94). -/
theorem execEncodeFrame_withPortOf (s p : State) :
    execEncodeFrame (s.withPortOf p) = onNext (·.withPortOf p) (execEncodeFrame s) := by
  have hlen : (s.withPortOf p).payloadTooLarge = s.payloadTooLarge := rfl
  have hpayload : (s.withPortOf p).payloadOperand = s.payloadOperand := rfl
  rw [execEncodeFrame, execEncodeFrame, hlen, hpayload]
  cases s.payloadTooLarge with
  | true => rfl
  | false => cases s.payloadOperand <;> rfl

/-- The completion step commutes with what the host may change while BUSY. -/
theorem engineStep_withPortOf (s p : State) :
    engineStep (s.withPortOf p) = onNext (·.withPortOf p) (engineStep s) := by
  have hbusy : (s.withPortOf p).status.busy = s.status.busy := rfl
  have hcmd : (s.withPortOf p).curCmd = s.curCmd := rfl
  rw [engineStep, engineStep, hbusy, hcmd]
  cases s.status.busy with
  | false => rfl
  | true =>
    cases decode s.curCmd with
    | error e => rfl
    | ok i =>
      cases i with
      | nop | quantize => rfl
      | dither => exact execDither_withPortOf s p
      | pack => exact execPack_withPortOf s p
      | encodeFrame => exact execEncodeFrame_withPortOf s p

/-- From a running state a turn of the host changes only what `State.withPortOf` names: the other flags are 0 already. -/
theorem State.PortOnly.eq_withPortOf {s t : State} (h : s.PortOnly t) (hrun : running s) : t = s.withPortOf t := by
  obtain ⟨hbusy, hdone, herr, hcode⟩ := hrun
  have hstatus : t.status = { s.status with accessErr := t.status.accessErr } := by
    obtain hst | hst | ⟨v, hst⟩ := h.status <;> rw [hst]
    · rfl
    · simp [Status.writeOneToClear, hdone, herr, hcode]
  rw [State.withPortOf, ← hstatus]
  exact h.frame

/-- Settles O52: the host's turn is a `State.withPortOf`, with which the completion step commutes. -/
theorem hostTurnsDoNotDisturbACommand : Obligations.HostTurnsDoNotDisturbACommand := by
  intro s s' hrun hhost
  have hport := (hostStep_portOnly hrun.1 hhost).eq_withPortOf hrun
  have hengine : engineStep s' = onNext (·.withPortOf s') (engineStep s) := by
    conv_lhs => rw [hport]
    exact engineStep_withPortOf s s'
  exact ⟨fun t ht => by rw [hengine, ht]; rfl, fun f hf => by rw [hengine, hf]; rfl⟩

end Sys2Proof.Machine
end

section
/-! SUPPORT. The command words: the decoder and the encoder are inverse to each other, and which words are refused. -/

namespace Sys2Proof.Machine

/-! ### The table words -/

@[simp] theorem decode_encode (i : Instr) : decode (encode i) = .ok i := by
  cases i <;> rfl

theorem encode_injective : Function.Injective encode := fun i j h =>
  Except.ok.inj (by rw [← decode_encode i, h, decode_encode j])

/-- A word selects a command exactly when all its 32 bits are those of the command's word (R91). -/
theorem decode_eq_ok_iff {w : Word} {i : Instr} : decode w = .ok i ↔ w = encode i :=
  ⟨eq_encode_of_decode, fun h => h ▸ decode_encode i⟩

/-- Settles O1: each word of the statement is the encoding of its command. -/
theorem decodeSelectsExactlyTheTableWords : Obligations.DecodeSelectsExactlyTheTableWords := fun _ =>
  ⟨decode_eq_ok_iff, decode_eq_ok_iff, decode_eq_ok_iff, decode_eq_ok_iff, decode_eq_ok_iff⟩

/-- `decodeTableWord` numbers a command word as the word itself. -/
theorem decodeTableWord_toNat {w : Word} {i : Instr} (h : decode w = .ok i) :
    decodeTableWord 32 w.toNat = some i := by
  rw [decodeTableWord, if_pos ⟨Nat.le_refl 32, w.isLt⟩, BitVec.ofNat_toNat, BitVec.setWidth_eq, h]

/-- Settles O3: the round trip holds of every command, and the words written out are evaluated. -/
theorem wordsDecodeToTheirCommands : Obligations.WordsDecodeToTheirCommands :=
  ⟨fun i _ => ⟨decode_encode i, decodeTableWord_toNat (decode_encode i)⟩, rfl, rfl, rfl, rfl, rfl⟩

/-! ### The illegal words -/

theorem decodeOpc_error_iff {opc : Byte} : (∃ e, decodeOpc opc = .error e) ↔ 5 ≤ opc.toNat := by
  unfold decodeOpc
  split
  case h_6 =>
    simp only [imp_false] at *
    exact iff_of_true ⟨_, rfl⟩ (by omega)
  all_goals simp [*]

/-- A word is illegal when its opcode is reserved or its field RSVD is not 0 (R92). -/
theorem decode_error_iff {w : Word} :
    (∃ e, decode w = .error e) ↔ 5 ≤ (opcField w).toNat ∨ rsvdField w ≠ 0 := by
  by_cases h : rsvdField w = 0
  · rw [decode, if_pos h, decodeOpc_error_iff, or_iff_left (not_not.2 h)]
  · rw [decode, if_neg h, or_iff_right_iff_imp.2 fun _ => h]
    simpa using h

/-- The illegal words are those that no command has. -/
theorem decode_error_iff_notMem_range {w : Word} : (∃ e, decode w = .error e) ↔ w ∈ (Set.range encode)ᶜ := by
  cases h : decode w with
  | ok i => simp [decode_eq_ok_iff.1 h]
  | error e =>
    simp only [Except.error.injEq, exists_eq', true_iff]
    rintro ⟨i, rfl⟩
    cases (decode_encode i).symm.trans h

theorem card_word : Nat.card Word = 2 ^ 32 := (Nat.card_congr FinEnum.equiv).trans (Nat.card_fin _)

theorem card_instr : Nat.card Instr = 5 :=
  (Nat.card_congr (FinEnum.ofList [.nop, .quantize, .dither, .pack, .encodeFrame] (by rintro ⟨⟩ <;> simp)).equiv).trans
    (Nat.card_fin _)

/-- Settles O2: the illegal words are the complement of the five words that the injective encoder gives. -/
theorem illegalWordsAreExactlyThoseOfTheRule : Obligations.IllegalWordsAreExactlyThoseOfTheRule := by
  refine ⟨fun w => decode_error_iff, ?_⟩
  calc Nat.card { w : Word // ∃ e, decode w = .error e }
      = (Set.range encode)ᶜ.ncard := Nat.card_congr (Equiv.subtypeEquivRight fun _ => decode_error_iff_notMem_range)
    _ = Nat.card Word - Nat.card Instr := by rw [Set.ncard_compl, Set.ncard_range_of_injective encode_injective]
    _ = 2 ^ 32 - 5 := by rw [card_word, card_instr]

end Sys2Proof.Machine
end

section
/-! SUPPORT. The frame of every command, and a host program that runs one. -/

namespace Sys2Proof.Machine

/-! ### What a command writes -/

/-- Settles O18, one answer of each command at a time; what a command computes is named before the states are compared. -/
theorem commandsWriteOnlyTheirResults : Obligations.CommandsWriteOnlyTheirResults := by
  intro i s t h
  cases i with
  | nop | quantize => cases h; exact ⟨rfl, rfl, rfl⟩
  | dither =>
    obtain ⟨-, heq⟩ | ⟨-, raster, -, heq⟩ | ⟨-, p, -, heq⟩ := execDither_cases s <;> cases heq.symm.trans h
    · exact ⟨rfl, rfl, rfl⟩
    · rw [ditherRaster]
      generalize accFinal s.palette s.westEdge raster = out
      exact ⟨rfl, rfl, rfl⟩
  | pack =>
    obtain ⟨-, heq⟩ | ⟨-, codes, -, heq⟩ | ⟨-, p, -, heq⟩ := execPack_cases s <;> cases heq.symm.trans h
    · exact ⟨rfl, rfl, rfl⟩
    · generalize Memory.ofList (packRaster codes).toList = bytes
      exact ⟨rfl, rfl, rfl⟩
  | encodeFrame =>
    obtain ⟨-, heq⟩ | ⟨-, payload, -, heq⟩ | ⟨-, k, -, heq⟩ := execEncodeFrame_cases s <;> cases heq.symm.trans h
    · exact ⟨rfl, rfl, rfl⟩
    · generalize Memory.ofList (frameBuffer s.feCmdId payload) = bytes
      exact ⟨rfl, rfl, rfl⟩

/-- No command changes whose turn it is, what the host will do, or the palette. -/
theorem exec_keeps_environment {i : Instr} {s t : State} (h : exec i s = .next t) :
    t.palette = s.palette ∧ t.hostProg = s.hostProg ∧ t.turns = s.turns := by
  obtain ⟨-, -, hframe⟩ := commandsWriteOnlyTheirResults i s t h
  cases i <;> rw [hframe] <;> exact ⟨rfl, rfl, rfl⟩

/-! ### The line RUN -/

theorem State.popTurn_of_empty {s : State} (h : s.turns = []) : s.popTurn = s := by
  rw [State.popTurn, h, List.tail_nil, ← h]

/-- With an empty schedule the host moves while the block is idle (log entry 4). -/
theorem step_host_of_idle {s : State} (hpal : s.palette.wellFormed = true) (hturns : s.turns = [])
    (hidle : s.status.busy = false) : step s = hostStep s := by
  have hturn : s.nextTurn = .host := by simp [State.nextTurn, hturns, hidle]
  rw [step_of_wellFormed hpal, hturn, State.popTurn_of_empty hturns, takeTurn]

/-- With an empty schedule the engine of a BUSY block moves and performs the latched command (R112, log entry 4). -/
theorem step_of_latched {s t : State} {i : Instr} (hexec : exec i s = .next t) (hpal : s.palette.wellFormed = true)
    (hturns : s.turns = []) (hbusy : s.status.busy = true) (hcmd : s.curCmd = encode i) : step s = .next t := by
  have hturn : s.nextTurn = .engine := by simp [State.nextTurn, hturns, hbusy]
  rw [step_of_wellFormed hpal, hturn, State.popTurn_of_empty hturns, takeTurn, engineStep, if_pos hbusy, hcmd,
    decode_encode, ← hexec]

theorem run_three {s₀ s₁ s₂ s₃ : State} (h₁ : step s₀ = .next s₁) (h₂ : step s₁ = .next s₂)
    (h₃ : step s₂ = .next s₃) : Host.Core.run Sys2Proof.core 3 s₀ = .next s₃ := by
  simp only [Host.Core.run, Sys2Proof.core, h₁, h₂, h₃]

/-- The host's write of `w` to CMD while idle is the accept of R110. -/
theorem hostStep_submits {s : State} {w : Word} {rest : List HostAction} (hidle : s.status.busy = false)
    (hprog : s.hostProg = .write (regAddress .cmd) w :: rest) :
    hostStep s =
      .next { s with curCmd := w, status := s.status.accepted, busData := none, hostProg := rest } := by
  rw [hostStep, hprog]
  exact congrArg Host.Outcome.next (busWrite_regAddress_idle .cmd w hidle)

/-- POLL ends at once when the block is idle (R99). -/
theorem hostStep_poll_of_idle {s : State} {rest : List HostAction} (hidle : s.status.busy = false)
    (hprog : s.hostProg = .poll :: rest) :
    hostStep s = .next { s with hostProg := rest, busData := some s.status.toWord } := by
  rw [hostStep, hprog]
  simp [pollStatus_eq, hidle]

/-- Settles O53: the host submits the command, the engine completes it, and POLL then finds BUSY = 0. -/
theorem runLineRunsItsCommand : Obligations.RunLineRunsItsCommand := by
  intro s t i rest hpal hturns hidle hprog hexec
  obtain ⟨hended, -, -⟩ := commandsWriteOnlyTheirResults _ _ _ hexec
  obtain ⟨hpalKept, hprogKept, hturnsKept⟩ := exec_keeps_environment hexec
  have hsubmit := (step_host_of_idle hpal hturns hidle).trans (hostStep_submits hidle hprog)
  have hcomplete := step_of_latched hexec hpal hturns rfl rfl
  have hpoll := (step_host_of_idle (hpalKept ▸ hpal) (hturnsKept.trans hturns) hended).trans
    (hostStep_poll_of_idle hended hprogKept)
  exact run_three hsubmit hcomplete hpoll

end Sys2Proof.Machine
end

section
/-! SUPPORT. The life of a command: its word at the port, the engine's completion step, the two ways it ends, and what
its answer depends on. -/

open Sys2Proof.Claims

namespace Sys2Proof.Machine

/-! ### The completion step -/

/-- While BUSY the engine performs the command that CUR_CMD decodes to (R112). -/
theorem engineStep_of_decode {s : State} {i : Instr} (hbusy : s.status.busy = true) (hdec : decode s.curCmd = .ok i) :
    engineStep s = exec i s := by
  rw [engineStep, if_pos hbusy, hdec]

/-- While BUSY with a word that decodes to no command the engine ends with ILLEGAL_COMMAND (R119). -/
theorem engineStep_of_illegal {s : State} {e : DecodeError} (hbusy : s.status.busy = true)
    (hdec : decode s.curCmd = .error e) : engineStep s = .next (illegalCommand s) := by
  rw [engineStep, if_pos hbusy, hdec]

theorem step_of_engine_turn {s : State} (hpal : s.palette.wellFormed = true) (hturn : s.nextTurn = .engine) :
    step s = engineStep s.popTurn := by
  rw [step_of_wellFormed hpal, hturn, takeTurn]

/-- A command word numbered as the word itself is the word submitted (log entry 3). -/
theorem withFetchWord_toNat (s : State) (w : Word) : s.withFetchWord 32 w.toNat = submitWord w s := by
  rw [State.withFetchWord, Nat.mod_eq_of_lt w.isLt, BitVec.ofNat_toNat, BitVec.setWidth_eq]

/-- Settles O5: the engine's turn is the completion step, and a submitted word gives the engine the next turn. -/
theorem stepRunsTheDecodedCommand : Obligations.StepRunsTheDecodedCommand := by
  constructor
  · intro s i hpal hturn hbusy hdec
    rw [step_of_engine_turn hpal hturn]
    exact engineStep_of_decode hbusy hdec
  · intro s i hpal
    rw [withFetchWord_toNat, step_of_engine_turn (s := submitWord (encode i) s) hpal rfl]
    exact engineStep_of_decode rfl (decode_encode i)

/-- An accept keeps of STATUS only ACCESS_ERR, so from STATUS = 0 the word after it is BUSY and nothing else (R110). -/
theorem Status.accepted_of_toWord_zero {f : Status} (h : f.toWord = 0) :
    f.accepted = { Status.reset with busy := true } := by
  have haccess : f.accessErr = false := by rw [← Status.toWord_accessErr, h]; rfl
  rw [Status.accepted, haccess]
  rfl

/-- Settles O6: a word of either kind is one that the decoder refuses, and the completion of the example starts
from BUSY alone. -/
theorem illegalWordEndsWithIllegalCommand : Obligations.IllegalWordEndsWithIllegalCommand := by
  constructor
  · intro s hbusy hillegal
    obtain ⟨e, hdec⟩ := decode_error_iff.2 hillegal
    exact engineStep_of_illegal hbusy hdec
  · intro s hzero
    have hdec : decode 0x00000005#32 = .error (.reservedOpcode 5) := by decide
    refine ⟨_, engineStep_of_illegal (s := s.accept 0x00000005) rfl hdec, ?_⟩
    rw [illegalCommand, State.raiseError_status, State.accept_status, Status.accepted_of_toWord_zero hzero]
    rfl

/-- Settles O11: NOP is `State.complete`, and the completion of the example starts from BUSY alone. -/
theorem nopOnlyCompletes : Obligations.NopOnlyCompletes := by
  refine ⟨fun s => rfl, rfl, fun s hzero => ⟨(s.accept (encode .nop)).complete, ?_, ?_⟩⟩
  · exact engineStep_of_decode (i := .nop) rfl (decode_encode .nop)
  · rw [State.complete_status, State.accept_status, Status.accepted_of_toWord_zero hzero]
    rfl

/-! ### The word at the port -/

/-- Settles O9: the accepted write is `State.accept`, which clears the other two sources of `irq`. -/
theorem idleCmdWriteIsAccepted : Obligations.IdleCmdWriteIsAccepted := by
  intro s w hidle
  have hwrite : busWrite 0x00004#20 w s = (s.accept w).returnNothing := busWrite_regAddress_idle .cmd w hidle
  rw [hwrite]
  exact ⟨rfl, by simp [State.irq]⟩

/-- Settles O10: CMD is a register that is frozen while BUSY. -/
theorem busyCmdWriteIsRejected : Obligations.BusyCmdWriteIsRejected := by
  intro s w hbusy
  have hwrite : busWrite 0x00004#20 w s = s.rejectWrite := busWrite_frozen (r := .cmd) w hbusy rfl
  exact hwrite ▸ isRejectedWriteOf_rejectWrite s

/-! ### The two ways a command ends -/

theorem ditherRaster_status (raster : List Rgb) (s : State) : (ditherRaster raster s).status = s.status := by
  rw [ditherRaster]

/-- A command that answers ends with success or with an error (R113, R114). -/
theorem exec_status {i : Instr} {s t : State} (h : exec i s = .next t) :
    t.status = s.status.completed ∨ ∃ c, t.status = s.status.failed c := by
  cases i with
  | nop | quantize => cases h; exact .inl rfl
  | dither =>
    obtain ⟨-, heq⟩ | ⟨-, raster, -, heq⟩ | ⟨-, p, -, heq⟩ := execDither_cases s <;> cases heq.symm.trans h
    · exact .inr ⟨_, rfl⟩
    · exact .inl (by rw [State.complete_status, ditherRaster_status])
  | pack =>
    obtain ⟨-, heq⟩ | ⟨-, codes, -, heq⟩ | ⟨-, p, -, heq⟩ := execPack_cases s <;> cases heq.symm.trans h
    · exact .inr ⟨_, rfl⟩
    · exact .inl (by rw [State.complete_status])
  | encodeFrame =>
    obtain ⟨-, heq⟩ | ⟨-, payload, -, heq⟩ | ⟨-, k, -, heq⟩ := execEncodeFrame_cases s <;> cases heq.symm.trans h
    · exact .inr ⟨_, rfl⟩
    · exact .inl (by rw [State.complete_status])

/-- An element below n that has no value is one whose mark is clear. -/
theorem Memory.not_writtenBelow {α : Type} {m : Memory α} {n k : Nat} (hk : k < n) (hnone : m.read k = none) :
    ¬m.writtenBelow n := fun h => by simpa [hnone] using h k hk

/-- A command answers when the operands it reads after its pre-flight check are written (R42, R223). -/
theorem exec_answers {i : Instr} {s : State} (h : s.preflightOk i → s.operandsWritten i) : ∃ t, exec i s = .next t := by
  cases i with
  | nop | quantize => exact ⟨_, rfl⟩
  | dither =>
    obtain ⟨-, heq⟩ | ⟨-, raster, -, heq⟩ | ⟨hdim, p, hsrc, -⟩ := execDither_cases s
    · exact ⟨_, heq⟩
    · exact ⟨_, heq⟩
    · obtain ⟨hp, hnone, -⟩ := srcOperand_error_iff.1 hsrc
      exact absurd (h hdim) (Memory.not_writtenBelow hp hnone)
  | pack =>
    obtain ⟨-, heq⟩ | ⟨-, codes, -, heq⟩ | ⟨hdim, p, hcode, -⟩ := execPack_cases s
    · exact ⟨_, heq⟩
    · exact ⟨_, heq⟩
    · obtain ⟨hp, hnone, -⟩ := codeOperand_error_iff.1 hcode
      exact absurd (h hdim) (Memory.not_writtenBelow hp hnone)
  | encodeFrame =>
    obtain ⟨-, heq⟩ | ⟨-, payload, -, heq⟩ | ⟨hfits, k, hpayload, -⟩ := execEncodeFrame_cases s
    · exact ⟨_, heq⟩
    · exact ⟨_, heq⟩
    · obtain ⟨hk, hnone, -⟩ := payloadOperand_error_iff.1 hpayload
      exact absurd (h hfits) (Memory.not_writtenBelow hk hnone)

/-- Settles O8: the engine moves, and its completion step is that of an illegal word or of a command that answers. -/
theorem busyEngineCompletes : Obligations.BusyEngineCompletes := by
  intro s hpal hturns hbusy hoperands
  have hturn : s.nextTurn = .engine := by simp [State.nextTurn, hturns, hbusy]
  rw [step_of_engine_turn hpal hturn, State.popTurn_of_empty hturns]
  cases hdec : decode s.curCmd with
  | error e => exact ⟨_, engineStep_of_illegal hbusy hdec, rfl, .inr rfl⟩
  | ok i =>
    obtain ⟨t, ht⟩ := exec_answers (hoperands i hdec)
    refine ⟨t, (engineStep_of_decode hbusy hdec).trans ht, ?_⟩
    obtain hst | ⟨c, hst⟩ := exec_status ht <;> simp [hst]

/-! ### Running a command again -/

/-- DITHER does not read what it writes. -/
theorem ditherRaster_twice (raster : List Rgb) (s : State) :
    (ditherRaster raster (ditherRaster raster s).complete).complete = (ditherRaster raster s).complete := by
  have hpal : (ditherRaster raster s).complete.palette = s.palette := by rw [ditherRaster, State.complete_palette]
  have hedge : (ditherRaster raster s).complete.westEdge = s.westEdge := by rw [ditherRaster, State.complete_westEdge]
  rw [ditherRaster, hpal, hedge, ditherRaster]
  generalize accFinal s.palette s.westEdge raster = out
  rfl

theorem ditherRaster_operands (raster : List Rgb) (s : State) :
    (ditherRaster raster s).complete.dimensionsOk = s.dimensionsOk ∧
      (ditherRaster raster s).complete.srcOperand = s.srcOperand := by
  rw [ditherRaster]
  exact ⟨rfl, rfl⟩

theorem execDither_rerun {s t : State} (h : exec .dither s = .next t) : exec .dither t = .next t := by
  obtain ⟨hdim, heq⟩ | ⟨hdim, raster, hsrc, heq⟩ | ⟨-, p, -, heq⟩ := execDither_cases s <;> cases heq.symm.trans h
  · have hdim' : (s.raiseError .dimensionMismatch).dimensionsOk = false := hdim
    rw [exec, execDither, hdim']
    rfl
  · obtain ⟨hdim', hsrc'⟩ := ditherRaster_operands raster s
    rw [exec, execDither, hdim', hdim, hsrc', hsrc]
    exact congrArg Host.Outcome.next (ditherRaster_twice raster s)

theorem execPack_rerun {s t : State} (h : exec .pack s = .next t) : exec .pack t = .next t := by
  obtain ⟨hdim, heq⟩ | ⟨hdim, codes, hcode, heq⟩ | ⟨-, p, -, heq⟩ := execPack_cases s <;> cases heq.symm.trans h
  · have hdim' : (s.raiseError .dimensionMismatch).dimensionsOk = false := hdim
    rw [exec, execPack, hdim']
    rfl
  · generalize hbytes : Memory.ofList (packRaster codes).toList = bytes
    have hdim' : { s with pack := bytes }.complete.dimensionsOk = true := hdim
    have hcode' : { s with pack := bytes }.complete.codeOperand = .ok codes := hcode
    rw [exec, execPack, hdim', hcode', ← hbytes]
    rfl

theorem execEncodeFrame_rerun {s t : State} (h : exec .encodeFrame s = .next t) : exec .encodeFrame t = .next t := by
  obtain ⟨hlen, heq⟩ | ⟨hlen, payload, hpayload, heq⟩ | ⟨-, k, -, heq⟩ := execEncodeFrame_cases s <;>
    cases heq.symm.trans h
  · have hlen' : ({ s with feFrameLen := 0 }.raiseError .payloadTooLarge).payloadTooLarge = true := hlen
    rw [exec, execEncodeFrame, hlen']
    rfl
  · generalize hframe : Memory.ofList (frameBuffer s.feCmdId payload) = frame
    generalize hn : BitVec.ofNat 9 (s.payloadLen + 4) = n
    have hlen' : { s with feFrame := frame, feFrameLen := n }.complete.payloadTooLarge = false := hlen
    have hpayload' : { s with feFrame := frame, feFrameLen := n }.complete.payloadOperand = .ok payload := hpayload
    rw [exec, execEncodeFrame, hlen', hpayload', ← hframe, ← hn]
    rfl

/-- Run again, a command answers the very state it left (R117). -/
theorem exec_rerun {i : Instr} {s t : State} (h : exec i s = .next t) : exec i t = .next t := by
  cases i with
  | nop | quantize => cases h; rfl
  | dither => exact execDither_rerun h
  | pack => exact execPack_rerun h
  | encodeFrame => exact execEncodeFrame_rerun h

/-- Settles O20: the second run answers the state it starts from, with ACC as well. -/
theorem runningTwiceIsRunningOnce : Obligations.RunningTwiceIsRunningOnce := fun _ _ t h => ⟨t, exec_rerun h, rfl⟩

/-! ### What an answer depends on -/

/-- Two commands ended alike: with the same flags and, on success, the same results. -/
def endAlike (i : Instr) (t₁ t₂ : State) : Prop :=
  t₁.status.done = t₂.status.done ∧ t₁.status.err = t₂.status.err ∧ t₁.status.errCode = t₂.status.errCode ∧
    (t₁.status.done = true → agreeOnResults i t₁ t₂)

/-- Two answers of a command are alike: both end it, and alike, or both are the same fault. -/
inductive AnswerAlike (i : Instr) : Result → Result → Prop where
  | next {t₁ t₂ : State} (h : endAlike i t₁ t₂) : AnswerAlike i (.next t₁) (.next t₂)
  | fault (f : Fault) : AnswerAlike i (.fault f) (.fault f)

theorem Memory.readEach_range_congr {α : Type} {m m' : Memory α} {n : Nat} (h : ∀ i, i < n → m.read i = m'.read i) :
    m.readEach (List.range n) = m'.readEach (List.range n) :=
  collect_congr fun i hi => h i (List.mem_range.1 hi)

theorem dimensionsOk_congr {s₁ s₂ : State} (hw : s₁.rasterW = s₂.rasterW) (hh : s₁.rasterH = s₂.rasterH) :
    s₁.dimensionsOk = s₂.dimensionsOk := by
  rw [State.dimensionsOk, hw, hh, State.dimensionsOk]

section
variable {i : Instr} {s₁ s₂ t₁ t₂ : State} (hrun₁ : running s₁) (hrun₂ : running s₂)
include hrun₁ hrun₂

/-- Commands that succeed from running states end alike when they wrote the same. -/
theorem endAlike_complete (h₁ : t₁.status = s₁.status) (h₂ : t₂.status = s₂.status)
    (hresults : agreeOnResults i t₁.complete t₂.complete) : endAlike i t₁.complete t₂.complete := by
  obtain ⟨-, -, herr₁, hcode₁⟩ := hrun₁
  obtain ⟨-, -, herr₂, hcode₂⟩ := hrun₂
  simp [endAlike, h₁, h₂, herr₁, herr₂, hcode₁, hcode₂, hresults]

/-- Commands that fail from running states with the same code end alike: DONE stays 0. -/
theorem endAlike_raiseError {c : ErrCode} (h₁ : t₁.status = s₁.status) (h₂ : t₂.status = s₂.status) :
    endAlike i (t₁.raiseError c) (t₂.raiseError c) := by
  obtain ⟨-, hdone₁, -, -⟩ := hrun₁
  obtain ⟨-, hdone₂, -, -⟩ := hrun₂
  simp [endAlike, h₁, h₂, hdone₁, hdone₂]

theorem execDither_alike (h : agreeOnOperands .dither s₁ s₂) :
    AnswerAlike .dither (exec .dither s₁) (exec .dither s₂) := by
  obtain ⟨hw, hh, hedge, hpal, hread⟩ := h
  have hdim := dimensionsOk_congr hw hh
  have hsrc : s₁.srcOperand = s₂.srcOperand := Memory.readEach_range_congr hread
  rw [exec, exec, execDither, execDither, hdim, hsrc]
  cases s₂.dimensionsOk with
  | false => exact .next (endAlike_raiseError hrun₁ hrun₂ rfl rfl)
  | true =>
    cases s₂.srcOperand with
    | error p => exact .fault _
    | ok raster =>
      refine .next (endAlike_complete hrun₁ hrun₂ (ditherRaster_status raster s₁) (ditherRaster_status raster s₂) ?_)
      simp [agreeOnResults, ditherRaster, hedge, hpal]

theorem execPack_alike (h : agreeOnOperands .pack s₁ s₂) : AnswerAlike .pack (exec .pack s₁) (exec .pack s₂) := by
  obtain ⟨hw, hh, hread⟩ := h
  have hdim := dimensionsOk_congr hw hh
  have hcode : s₁.codeOperand = s₂.codeOperand := Memory.readEach_range_congr hread
  rw [exec, exec, execPack, execPack, hdim, hcode]
  cases s₂.dimensionsOk with
  | false => exact .next (endAlike_raiseError hrun₁ hrun₂ rfl rfl)
  | true =>
    cases s₂.codeOperand with
    | error p => exact .fault _
    | ok codes => exact .next (endAlike_complete hrun₁ hrun₂ rfl rfl rfl)

theorem execEncodeFrame_alike (h : agreeOnOperands .encodeFrame s₁ s₂) :
    AnswerAlike .encodeFrame (exec .encodeFrame s₁) (exec .encodeFrame s₂) := by
  obtain ⟨hn, hid, hread⟩ := h
  have hlen : s₁.payloadLen = s₂.payloadLen := congrArg BitVec.toNat hn
  have hlarge : s₁.payloadTooLarge = s₂.payloadTooLarge := by rw [State.payloadTooLarge, hlen, State.payloadTooLarge]
  have hpayload : s₁.payloadOperand = s₂.payloadOperand := by
    rw [State.payloadOperand, State.payloadOperand, ← hlen]
    exact Memory.readEach_range_congr hread
  rw [exec, exec, execEncodeFrame, execEncodeFrame, hlarge, hpayload, hlen]
  cases s₂.payloadTooLarge with
  | true => exact .next (endAlike_raiseError hrun₁ hrun₂ rfl rfl)
  | false =>
    cases s₂.payloadOperand with
    | error k => exact .fault _
    | ok payload =>
      refine .next (endAlike_complete hrun₁ hrun₂ rfl rfl ?_)
      simp only [agreeOnResults, State.complete_feFrame, State.complete_feFrameLen, hid, and_self]

/-- Running states that agree on a command's operands answer it alike (R112, R94). -/
theorem exec_alike (h : agreeOnOperands i s₁ s₂) : AnswerAlike i (exec i s₁) (exec i s₂) := by
  cases i with
  | nop => exact .next (endAlike_complete hrun₁ hrun₂ rfl rfl trivial)
  | quantize =>
    obtain ⟨hrgb, hpal⟩ := h
    refine .next (endAlike_complete hrun₁ hrun₂ rfl rfl ?_)
    simp only [agreeOnResults, State.complete_qCode, hrgb, hpal]
  | dither => exact execDither_alike hrun₁ hrun₂ h
  | pack => exact execPack_alike hrun₁ hrun₂ h
  | encodeFrame => exact execEncodeFrame_alike hrun₁ hrun₂ h

end

/-- Settles O21: the two clauses are the two ways in which answers are alike. -/
theorem resultsDependOnlyOnOperands : Obligations.ResultsDependOnlyOnOperands := by
  intro i s₁ s₂ hrun₁ hrun₂ hagree
  have halike := exec_alike hrun₁ hrun₂ hagree
  refine ⟨fun t₁ ht₁ => ?_, fun f hf => ?_⟩
  · rw [ht₁] at halike
    generalize exec i s₂ = r₂ at halike ⊢
    cases halike with
    | next hend => exact ⟨_, rfl, hend⟩
  · rw [hf] at halike
    generalize exec i s₂ = r₂ at halike ⊢
    cases halike with
    | fault => rfl

end Sys2Proof.Machine
end

section
/-! SUPPORT. The Quantizer: its scan keeps the first minimum, the first minimum is unique and survives a strictly
increasing change of the distance, and the distance is the squared Euclidean one (spec/41_quantizer.md). -/

open Sys2Proof.Claims

namespace Sys2Proof.Machine

/-! ### The codes -/

@[simp] theorem colourOf_codeOf (c : Colour) : colourOf (codeOf c) = c := by
  cases c <;> rfl

@[simp] theorem codeOf_colourOf (k : Code) : codeOf (colourOf k) = k := by
  revert k
  decide

/-- Settles O22: the two functions invert each other on the four colours and on the four codes. -/
theorem codesAreTheSpecsAndInvertible : Obligations.CodesAreTheSpecsAndInvertible :=
  ⟨rfl, rfl, rfl, rfl, colourOf_codeOf, codeOf_colourOf⟩

/-! ### The first minimum -/

theorem orderRank_injective : Function.Injective orderRank := by
  intro c c' h
  cases c <;> cases c' <;> simp_all [orderRank]

/-- There is only one first nearest colour: of two, neither can come before the other. -/
theorem isFirstNearest_unique {d : Colour → Int} {c c' : Colour} (h : IsFirstNearest d c) (h' : IsFirstNearest d c') :
    c = c' := by
  obtain ⟨hle, hlt⟩ := h c'
  obtain ⟨hle', hlt'⟩ := h' c
  obtain hrank | hrank | hrank := lt_trichotomy (orderRank c) (orderRank c')
  · exact absurd (hlt' hrank) (not_lt.2 hle)
  · exact orderRank_injective hrank
  · exact absurd (hlt hrank) (not_lt.2 hle')

/-- Only the order of the distances matters, not their values. -/
theorem isFirstNearest_strictMono_comp {f : Int → Int} (hf : StrictMono f) {d : Colour → Int} {c : Colour} :
    IsFirstNearest (fun c => f (d c)) c ↔ IsFirstNearest d c := by
  simp only [IsFirstNearest, hf.le_iff_le, hf.lt_iff_lt]

/-! ### The scan of the colours -/

/-- The choice of one turn of the scan: only a strictly smaller distance displaces the earlier colour (R132). -/
def nearerOf (d : Colour → Int) (best c : Colour) : Colour := if d c < d best then c else best

/-- `best` is the first colour of least distance among those scanned so far. -/
def IsFirstNearestIn (d : Colour → Int) (seen : List Colour) (best : Colour) : Prop :=
  best ∈ seen ∧ ∀ c ∈ seen, d best ≤ d c ∧ (orderRank c < orderRank best → d best < d c)

theorem quantizeS_eq_foldl (pal : Palette) (v : Triple) (s : Int) :
    quantizeS pal v s = laterColours.foldl (nearerOf (dist2 pal v s)) .white := rfl

theorem mem_scanOrder (c : Colour) : c ∈ Colour.white :: laterColours := by
  cases c <;> decide

/-- One turn of the scan, on a colour that comes later in the order than all colours seen. -/
theorem nearerOf_isFirstNearestIn {d : Colour → Int} {seen : List Colour} {best c : Colour}
    (h : IsFirstNearestIn d seen best) (hlater : ∀ a ∈ seen, orderRank a < orderRank c) :
    IsFirstNearestIn d (seen ++ [c]) (nearerOf d best c) := by
  obtain ⟨hmem, hfirst⟩ := h
  rw [IsFirstNearestIn, List.forall_mem_append, List.forall_mem_singleton, List.mem_append]
  by_cases hnear : d c < d best
  · rw [nearerOf, if_pos hnear]
    refine ⟨.inr (List.mem_singleton_self c), fun a ha => ?_, le_rfl, fun hrank => absurd hrank (lt_irrefl _)⟩
    have hlt : d c < d a := hnear.trans_le (hfirst a ha).1
    exact ⟨hlt.le, fun _ => hlt⟩
  · rw [nearerOf, if_neg hnear]
    exact ⟨.inl hmem, hfirst, not_lt.1 hnear, fun hrank => absurd hrank (hlater best hmem).asymm⟩

theorem foldl_nearerOf_isFirstNearestIn {d : Colour → Int} {rest seen : List Colour} {best : Colour}
    (h : IsFirstNearestIn d seen best) (horder : (seen ++ rest).Pairwise (orderRank · < orderRank ·)) :
    IsFirstNearestIn d (seen ++ rest) (rest.foldl (nearerOf d) best) := by
  induction rest generalizing seen best with
  | nil => simpa using h
  | cons c rest ih =>
    have hlater : ∀ a ∈ seen, orderRank a < orderRank c :=
      fun a ha => (List.pairwise_append.1 horder).2.2 a ha c List.mem_cons_self
    rw [List.append_cons] at horder ⊢
    exact ih (nearerOf_isFirstNearestIn h hlater) horder

/-- The scan returns the first nearest colour (R132), whatever the scale. -/
theorem quantizeS_isFirstNearest (pal : Palette) (v : Triple) (s : Int) :
    IsFirstNearest (dist2 pal v s) (quantizeS pal v s) := by
  have hwhite : IsFirstNearestIn (dist2 pal v s) [.white] .white := by simp [IsFirstNearestIn]
  obtain ⟨-, hfirst⟩ := foldl_nearerOf_isFirstNearestIn (rest := laterColours) hwhite (by decide)
  rw [quantizeS_eq_foldl]
  exact fun c => hfirst c (mem_scanOrder c)

theorem quantizeS_eq_iff {pal : Palette} {v : Triple} {s : Int} {c : Colour} :
    quantizeS pal v s = c ↔ IsFirstNearest (dist2 pal v s) c :=
  ⟨fun h => h ▸ quantizeS_isFirstNearest pal v s, isFirstNearest_unique (quantizeS_isFirstNearest pal v s)⟩

/-- Settles O23, by induction on the colours still to be scanned. -/
theorem quantizerReturnsFirstMinimum : Obligations.QuantizerReturnsFirstMinimum :=
  fun pal v s _ => quantizeS_isFirstNearest pal v s

/-! ### Scaling -/

theorem dist2_scaled (pal : Palette) (v : Triple) (s : Int) (c : Colour) :
    dist2 pal { r := s * v.r, g := s * v.g, b := s * v.b } s c = s ^ 2 * dist2 pal v 1 c := by
  simp only [dist2]
  ring

/-- Settles O24: scaling multiplies every distance by s², which keeps their order. -/
theorem quantizerIsScaleInvariant : Obligations.QuantizerIsScaleInvariant := by
  intro pal v s hs
  have hmono : StrictMono (s ^ 2 * · : Int → Int) := strictMono_mul_left_of_pos (pow_pos hs 2)
  rw [quantizeS_eq_iff, funext (dist2_scaled pal v s), isFirstNearest_strictMono_comp hmono]
  exact quantizeS_isFirstNearest pal v 1

/-! ### Pixels at scale 1 -/

theorem dist2_pixelTriple (pal : Palette) (p : Rgb) (c : Colour) :
    dist2 pal (pixelTriple p) 1 c = rgbDistance p (paletteRgb pal c) := by
  simp only [dist2, pixelTriple, rgbDistance, one_mul]

theorem quantize8_isFirstNearest (pal : Palette) (p : Rgb) :
    IsFirstNearest (fun c => rgbDistance p (paletteRgb pal c)) (quantize8 pal p) := by
  rw [← funext (dist2_pixelTriple pal p)]
  exact quantizeS_isFirstNearest pal (pixelTriple p) 1

theorem rgbDistance_self (p : Rgb) : rgbDistance p p = 0 := by
  simp [rgbDistance]

theorem eq_of_channel_square_nonpos {a b : Byte} (h : ((a.toNat : Int) - b.toNat) ^ 2 ≤ 0) : a = b := by
  have hzero : (a.toNat : Int) - b.toNat = 0 := pow_eq_zero_iff two_ne_zero |>.1 (le_antisymm h (sq_nonneg _))
  exact BitVec.eq_of_toNat_eq (by omega)

theorem eq_of_rgbDistance_nonpos {p q : Rgb} (h : rgbDistance p q ≤ 0) : p = q := by
  have hr := sq_nonneg ((p.r.toNat : Int) - q.r.toNat)
  have hg := sq_nonneg ((p.g.toNat : Int) - q.g.toNat)
  have hb := sq_nonneg ((p.b.toNat : Int) - q.b.toNat)
  rw [rgbDistance] at h
  rw [Rgb.mk.injEq]
  exact ⟨eq_of_channel_square_nonpos (by linarith), eq_of_channel_square_nonpos (by linarith),
    eq_of_channel_square_nonpos (by linarith)⟩

/-- Settles O25: the colour itself is at distance 0, so the nearest one has its triple, and triples are distinct. -/
theorem paletteColoursAreFixedPoints : Obligations.PaletteColoursAreFixedPoints := by
  intro pal c hpal
  have hle : rgbDistance (paletteRgb pal c) (paletteRgb pal (quantize8 pal (paletteRgb pal c))) ≤ 0 :=
    (quantize8_isFirstNearest pal (paletteRgb pal c) c).1.trans_eq (rgbDistance_self _)
  exact (paletteRgb_injective hpal (eq_of_rgbDistance_nonpos hle)).symm

/-! ### QUANTIZE -/

/-- The rule of QUANTIZE (R137). -/
theorem exec_quantize (s : State) :
    exec .quantize s = .next { s with
      qCode := codeOf (quantize8 s.palette s.qRgb)
      status := { s.status with busy := false, done := true } } := by
  rw [exec, execQuantize, State.complete, Status.completed]

/-- Settles O12: the code that QUANTIZE writes is that of the quantizer's choice, which is the first nearest colour. -/
theorem quantizeGivesFirstNearestColour : Obligations.QuantizeGivesFirstNearestColour := by
  refine ⟨fun s => ⟨_, quantize8_isFirstNearest s.palette s.qRgb, exec_quantize s⟩, rfl, by decide,
    fun s t hpal ht => ?_⟩
  have hcode : t.qCode = codeOf (quantize8 Config.paletteDefault s.qRgb) := by
    rw [exec_quantize, hpal] at ht
    cases ht
    rfl
  rw [hcode]
  refine ⟨fun hq => ?_, fun hq => ?_, fun hq => ?_, fun hq => ?_⟩ <;> rw [hq] <;> decide

/-! ### PALETTE_DEFAULT -/

/-- The linear key of R139. -/
theorem dist2_paletteDefault (v : Triple) (s : Int) (c : Colour) :
    dist2 Config.paletteDefault v s c = v.r ^ 2 + v.g ^ 2 + v.b ^ 2 + 255 * s * defaultKey v s c := by
  cases c <;> simp [dist2, pixelTriple, paletteRgb, Config.paletteDefault, defaultKey] <;> ring

theorem addKey_strictMono {s : Int} (hs : 0 < s) (a : Int) : StrictMono fun key : Int => a + 255 * s * key :=
  (strictMono_mul_left_of_pos (by positivity)).const_add a

theorem dist2_paletteDefault_eq_iff (v : Triple) (c c' : Colour) :
    dist2 Config.paletteDefault v 1 c = dist2 Config.paletteDefault v 1 c' ↔ defaultKey v 1 c = defaultKey v 1 c' := by
  rw [dist2_paletteDefault, dist2_paletteDefault]
  exact (addKey_strictMono one_pos _).injective.eq_iff

theorem quantizeS_paletteDefault_isFirstNearest (v : Triple) {s : Int} (hs : 0 < s) :
    IsFirstNearest (defaultKey v s) (quantizeS Config.paletteDefault v s) := by
  rw [← isFirstNearest_strictMono_comp (addKey_strictMono hs (v.r ^ 2 + v.g ^ 2 + v.b ^ 2)),
    ← funext (dist2_paletteDefault v s)]
  exact quantizeS_isFirstNearest Config.paletteDefault v s

/-- Settles O26: a tie of distances is a tie of keys; the four pairs that never tie differ by an odd number. -/
theorem defaultPaletteHasLinearKeys : Obligations.DefaultPaletteHasLinearKeys := by
  refine ⟨dist2_paletteDefault, fun v _ hs => quantizeS_paletteDefault_isFirstNearest v hs, fun v => ?_⟩
  simp only [ne_eq, dist2_paletteDefault_eq_iff, defaultKey]
  omega

end Sys2Proof.Machine
end

section
/-! SUPPORT. The Ditherer's parts: shares, output bytes, the pre-flight check and the order of the scan
(spec/42_ditherer.md R151, R154, R155, R157). -/

open Sys2Proof.Claims

namespace Sys2Proof.Machine

/-! ### Number format and helpers -/

/-- Settles O27: a share is a floor division by 16, which loses less than 16 and nothing of a multiple. -/
theorem sharesAreRoundedHalfUp : Obligations.SharesAreRoundedHalfUp := by
  intro e w
  have hexact : (16 : Int) ∣ e * w → 16 * contrib e w = e * w := fun h => by rw [contrib_eq]; omega
  refine ⟨by rw [contrib_eq]; omega, by rw [contrib_eq]; omega, hexact, fun h => hexact ?_⟩
  exact (Int.dvd_trans (by decide) h).mul_right w

/-- Settles O28: the byte is the clipped value divided by 256. -/
theorem outputIsClippedAndTruncated : Obligations.OutputIsClippedAndTruncated := by
  intro a
  have h := toByte_toNat a
  refine ⟨?_, ?_, ?_, ?_⟩ <;> omega

/-- A level that came in as an 8-bit channel goes out as the same channel (R150, R155). -/
theorem toByte_level (c : Byte) : toByte (c.toNat * Config.q8Scale) = c := by
  have h := toByte_toNat (c.toNat * Config.q8Scale)
  exact BitVec.eq_of_toNat_eq (by simp only [Config.q8Scale] at h ⊢; omega)

@[simp] theorem toPixel_pixelQ8 (c : Rgb) : (pixelQ8 c).toPixel = c := by
  simp only [Triple.toPixel, pixelQ8, toByte_level]

/-! ### The two ways DITHER answers -/

theorem dimensionsOk_eq_false {s : State} (h : s.rasterW ≠ 250 ∨ s.rasterH ≠ 124) : s.dimensionsOk = false := by
  simp only [State.dimensionsOk, decide_eq_false_iff_not, not_and_or]
  exact h.imp (fun hne heq => hne (BitVec.eq_of_toNat_eq heq)) fun hne heq => hne (BitVec.eq_of_toNat_eq heq)

/-- Settles O16: the pre-flight check of both commands fails, and each ends with the same error. -/
theorem wrongDimensionsChangeOnlyStatus : Obligations.WrongDimensionsChangeOnlyStatus := by
  intro s h
  have hdim := dimensionsOk_eq_false h
  constructor
  · rw [exec, execDither, hdim]
    rfl
  · rw [exec, execPack, hdim]
    rfl

/-! ### The scan -/

/-- Row-major counting: the pairs listed row by row are the quotients and remainders by the row's length. -/
theorem rowMajor_eq_map_range (n : Nat) {m : Nat} (hm : 0 < m) :
    ((List.range n).flatMap fun y => (List.range m).map fun x => (x, y)) =
      (List.range (n * m)).map fun k => (k % m, k / m) := by
  induction n with
  | zero => simp
  | succ n ih =>
    rw [List.range_succ, List.flatMap_append, ih, Nat.succ_mul, List.range_add, List.map_append, List.map_map]
    congr 1
    rw [List.flatMap_singleton]
    refine List.map_congr_left fun x hx => ?_
    have hxm : x < m := List.mem_range.1 hx
    simp [Nat.mul_add_div hm, Nat.mul_comm n m, Nat.mod_eq_of_lt hxm, Nat.div_eq_of_lt hxm]

/-- The k-th processed pixel is (k mod 249, k div 249) (R154). -/
theorem scanOrder_eq : scanOrder = (List.range 30627).map fun k => (k % 249, k / 249) :=
  rowMajor_eq_map_range (Config.rasterHeight - 1) (by decide)

/-- Settles O29: scan order is counting to 30627 in rows of 249. -/
theorem scanVisitsProcessedPixelsInOrder : Obligations.ScanVisitsProcessedPixelsInOrder := by
  rw [Obligations.ScanVisitsProcessedPixelsInOrder, scanOrder_eq]
  refine ⟨by simp, fun x y => ?_, ?_⟩
  · simp only [List.mem_map, List.mem_range, Prod.mk.injEq]
    exact ⟨fun ⟨k, hk, hx, hy⟩ => by omega, fun h => ⟨y * 249 + x, by omega, by omega, by omega⟩⟩
  · rw [List.pairwise_map]
    exact List.pairwise_lt_range.imp fun h => by omega

theorem scanOrder_getElem? {k : Nat} (hk : k < 30627) : scanOrder[k]? = some (k % 249, k / 249) := by
  rw [scanOrder_eq, List.getElem?_map, List.getElem?_range hk]
  rfl

end Sys2Proof.Machine
end

section
/-! SUPPORT. The scan's work on one pixel: what it does to every accumulator, by pixel number and by coordinates. -/

open Sys2Proof.Claims

namespace Sys2Proof.Machine

/-! ### By pixel number -/

theorem pixelIndex_eq (x y : Nat) : pixelIndex x y = y * 250 + x := rfl

/-- What the accumulator q gains when the share of e for weight w goes to `target`, if there is one. -/
def gain (q : Nat) (target : Option Nat) (e : Triple) (w : Int) : Triple :=
  if target = some q then share e w else Triple.zero

@[simp] theorem gain_self (q : Nat) (e : Triple) (w : Int) : gain q (some q) e w = share e w := if_pos rfl

theorem gain_of_ne {q : Nat} {target : Option Nat} (h : target ≠ some q) (e : Triple) (w : Int) :
    gain q target e w = Triple.zero := if_neg h

theorem diffuse_at_gain {acc : AccArray} {q : Nat} (hq : q < Array.size acc) (p : Nat) (e : Triple) (w : Int) :
    AccArray.at (diffuse acc p e w) q = (AccArray.at acc q).add (gain q (some p) e w) := by
  rw [diffuse_at acc p q e w hq]
  by_cases h : q = p
  · rw [if_pos h, h, gain_self]
  · rw [if_neg h, gain_of_ne (by simpa using Ne.symm h), Triple.add_zero]

/-- The target of the south-west share of pixel (x, y), if it has one (R153). -/
def southWestTarget (pol : WestEdge) (x y : Nat) : Option Nat :=
  if 1 ≤ x then some ((y + 1) * 250 + (x - 1))
  else match pol with
    | .skip => none
    | .clamp => some ((y + 1) * 250)
    | .wrap => some ((y + 1) * 250 + 249)

/-- No share goes back to the pixel itself. -/
theorem southWestTarget_ne (pol : WestEdge) {x : Nat} (hx : x ≤ 248) (y : Nat) :
    southWestTarget pol x y ≠ some (pixelIndex x y) := by
  by_cases hx1 : 1 ≤ x
  · simp only [southWestTarget, if_pos hx1, pixelIndex_eq, ne_eq, Option.some.injEq]
    omega
  · cases pol with
    | skip => simp [southWestTarget, hx1]
    | clamp | wrap =>
      simp only [southWestTarget, if_neg hx1, pixelIndex_eq, ne_eq, Option.some.injEq]
      omega

theorem diffuseSouthWest_at {acc : AccArray} {q : Nat} (hq : q < Array.size acc) (pol : WestEdge) (x y : Nat)
    (e : Triple) :
    AccArray.at (diffuseSouthWest pol acc x y e) q =
      (AccArray.at acc q).add (gain q (southWestTarget pol x y) e 3) := by
  by_cases hx : 1 ≤ x
  · simp only [diffuseSouthWest, southWestTarget, if_pos hx, diffuse_at_gain hq, pixelIndex_eq]
  · cases pol with
    | skip => simp [diffuseSouthWest, southWestTarget, hx, gain_of_ne]
    | clamp | wrap => simp [diffuseSouthWest, southWestTarget, hx, diffuse_at_gain hq, pixelIndex_eq]

theorem setIfInBounds_at {acc : AccArray} {p : Nat} (hp : p < Array.size acc) (v : Triple) (q : Nat) :
    AccArray.at (acc.setIfInBounds p v) q = if q = p then v else AccArray.at acc q := by
  simp only [AccArray.at, Array.getD_eq_getD_getElem?, Array.getElem?_setIfInBounds]
  by_cases h : p = q
  · simp [← h, hp]
  · simp [h, Ne.symm h]

section
variable (pal : Palette) (pol : WestEdge) {acc : AccArray} {x y q : Nat} (hsize : Array.size acc = 31000)
  (hx : x ≤ 248) (hy : y ≤ 122)
include hsize hx hy

/-- Work on one pixel as five updates: the pixel's own and one for each share (R156, R157). -/
theorem ditherPixel_at (hq : q < 31000) :
    (ditherPixel pal pol acc (x, y)).at q =
      ((((if q = pixelIndex x y then pixelQ8 (paletteRgb pal (quantizeS pal (acc.at (pixelIndex x y)) 256))
          else acc.at q).add
        (gain q (some (pixelIndex (x + 1) y)) (errorOf pal (acc.at (pixelIndex x y))) 7)).add
        (gain q (southWestTarget pol x y) (errorOf pal (acc.at (pixelIndex x y))) 3)).add
        (gain q (some (pixelIndex x (y + 1))) (errorOf pal (acc.at (pixelIndex x y))) 5)).add
        (gain q (some (pixelIndex (x + 1) (y + 1))) (errorOf pal (acc.at (pixelIndex x y))) 1) := by
  have hp : pixelIndex x y < Array.size acc := by rw [hsize, pixelIndex_eq]; omega
  have hqs : q < Array.size acc := hsize ▸ hq
  rw [ditherPixel, diffuse_at_gain (by simpa using hqs), diffuse_at_gain (by simpa using hqs),
    diffuseSouthWest_at (by simpa using hqs), diffuse_at_gain (by simpa using hqs), setIfInBounds_at hp]
  rfl

/-- The pixel itself takes its palette value (R157). -/
theorem ditherPixel_at_self :
    (ditherPixel pal pol acc (x, y)).at (pixelIndex x y) =
      pixelQ8 (paletteRgb pal (quantizeS pal (acc.at (pixelIndex x y)) 256)) := by
  have hne {x' y' : Nat} (h : y' * 250 + x' ≠ y * 250 + x) : some (pixelIndex x' y') ≠ some (pixelIndex x y) := by
    simpa [pixelIndex_eq] using h
  rw [ditherPixel_at pal pol hsize hx hy (by rw [pixelIndex_eq]; omega), if_pos rfl, gain_of_ne (hne (by omega)),
    gain_of_ne (southWestTarget_ne pol hx y), gain_of_ne (hne (by omega)), gain_of_ne (hne (by omega))]
  simp

end

/-- Settles O30: the shares of the four `diffuse` calls, none of which goes back to the pixel itself. -/
theorem onePixelDiffusesItsError : Obligations.OnePixelDiffusesItsError := by
  intro pal pol acc x y q hsize hx hy hq old new e gainOf southWest
  by_cases h : q = y * 250 + x
  · rw [if_pos h, h]
    exact ditherPixel_at_self pal pol hsize hx hy
  · rw [ditherPixel_at pal pol hsize hx hy hq, if_neg h, pixelIndex_eq, if_neg h]
    rfl

/-! ### By coordinates -/

/-- The errors that are e at (x₀, y₀) and zero elsewhere. -/
def errorAt (x₀ y₀ : Nat) (e : Triple) (x y : Nat) : Triple := if x = x₀ ∧ y = y₀ then e else Triple.zero

theorem share_errorAt (x₀ y₀ : Nat) (e : Triple) (x y : Nat) (w : Int) :
    share (errorAt x₀ y₀ e x y) w = if x = x₀ ∧ y = y₀ then share e w else Triple.zero := by
  rw [errorAt, apply_ite (share · w), share_zero]

theorem share_add_of_zero {a b : Triple} (h : a = Triple.zero ∨ b = Triple.zero) (w : Int) :
    share (a.add b) w = (share a w).add (share b w) := by
  obtain rfl | rfl := h <;> simp [share_zero]

theorem Triple.ite_add (p : Prop) [Decidable p] (a b : Triple) :
    (if p then a.add b else Triple.zero) = (if p then a else Triple.zero).add (if p then b else Triple.zero) := by
  split <;> simp

/-- Errors at different pixels give their shares independently (R161). -/
theorem received_add {e₁ e₂ : Nat → Nat → Triple} (pol : WestEdge)
    (h : ∀ x y, e₁ x y = Triple.zero ∨ e₂ x y = Triple.zero) (x y : Nat) :
    received pol (fun x y => (e₁ x y).add (e₂ x y)) x y = (received pol e₁ x y).add (received pol e₂ x y) := by
  simp only [received, share_add_of_zero (h _ _), Triple.ite_add]
  simp only [Triple.add, Triple.mk.injEq]
  refine ⟨?_, ?_, ?_⟩ <;> ring

section
variable {x₀ y₀ x y : Nat}

/-- The south-west share, seen from the pixel (x, y) that gains it: it comes from its north-east, or by the policy from
column 0 (R153, R161). -/
theorem gain_southWestTarget (pol : WestEdge) (hx₀ : x₀ ≤ 248) (hx : x < 250) (e : Triple) (w : Int) :
    gain (y * 250 + x) (southWestTarget pol x₀ y₀) e w =
      (if 1 ≤ y ∧ x + 1 = x₀ ∧ y - 1 = y₀ then share e w else Triple.zero).add
        (if (pol = .clamp ∧ x = 0 ∧ 1 ≤ y ∨ pol = .wrap ∧ x = 249 ∧ 1 ≤ y) ∧ 0 = x₀ ∧ y - 1 = y₀ then share e w
          else Triple.zero) := by
  by_cases h : 1 ≤ x₀
  · have hnorthEast : (y₀ + 1) * 250 + (x₀ - 1) = y * 250 + x ↔ 1 ≤ y ∧ x + 1 = x₀ ∧ y - 1 = y₀ := by
      constructor <;> omega
    simp [gain, southWestTarget, h, hnorthEast, show 0 ≠ x₀ by omega]
  · obtain rfl : x₀ = 0 := by omega
    cases pol with
    | skip => simp [gain, southWestTarget]
    | clamp =>
      have hcolumn : (y₀ + 1) * 250 = y * 250 + x ↔ (x = 0 ∧ 1 ≤ y) ∧ y - 1 = y₀ := by omega
      simp [gain, southWestTarget, hcolumn]
    | wrap =>
      have hcolumn : (y₀ + 1) * 250 + 249 = y * 250 + x ↔ (x = 249 ∧ 1 ≤ y) ∧ y - 1 = y₀ := by omega
      simp [gain, southWestTarget, hcolumn]

/-- Seen from the pixel (x, y) that gains it: the share that the work on (x₀, y₀) sends it is what the table of R161
says it receives when (x₀, y₀) alone has an error. -/
theorem ditherPixel_at_of_ne (pal : Palette) (pol : WestEdge) {acc : AccArray} (hsize : Array.size acc = 31000)
    (hx₀ : x₀ ≤ 248) (hy₀ : y₀ ≤ 122) (hx : x < 250) (hy : y < 124) (hne : ¬(x = x₀ ∧ y = y₀)) :
    (ditherPixel pal pol acc (x₀, y₀)).at (pixelIndex x y) =
      (acc.at (pixelIndex x y)).add
        (received pol (errorAt x₀ y₀ (errorOf pal (acc.at (pixelIndex x₀ y₀)))) x y) := by
  have hq : ¬y * 250 + x = y₀ * 250 + x₀ := by omega
  have heast : y₀ * 250 + (x₀ + 1) = y * 250 + x ↔ 1 ≤ x ∧ x - 1 = x₀ ∧ y = y₀ := by constructor <;> omega
  have hsouth : (y₀ + 1) * 250 + x₀ = y * 250 + x ↔ 1 ≤ y ∧ x = x₀ ∧ y - 1 = y₀ := by constructor <;> omega
  have hsouthEast : (y₀ + 1) * 250 + (x₀ + 1) = y * 250 + x ↔ (1 ≤ x ∧ 1 ≤ y) ∧ x - 1 = x₀ ∧ y - 1 = y₀ := by
    constructor <;> omega
  rw [ditherPixel_at pal pol hsize hx₀ hy₀ (by rw [pixelIndex_eq]; omega)]
  generalize errorOf pal (acc.at (pixelIndex x₀ y₀)) = e
  simp only [received, share_errorAt, ← ite_and, pixelIndex_eq, hq, if_false, gain_southWestTarget pol hx₀ hx]
  simp only [gain, Option.some.injEq, heast, hsouth, hsouthEast, Triple.add_assoc]
  simp only [Triple.add, Triple.mk.injEq]
  refine ⟨?_, ?_, ?_⟩ <;> ring

end

end Sys2Proof.Machine
end

section
/-! SUPPORT. The scan as a recurrence: an accumulator holds its source value and the shares received so far until its
pixel is processed, and its palette value from then on (R160, R161). -/

open Sys2Proof.Claims

namespace Sys2Proof.Machine

/-! ### When a pixel is processed -/

/-- How many pixels the scan processes before (x, y); all of them for a border pixel. -/
def scanTime (x y : Nat) : Nat := if x ≤ 248 ∧ y ≤ 122 then y * 249 + x else 30627

theorem scanTime_of_processed {x y : Nat} (h : processed x y) : scanTime x y = y * 249 + x := if_pos h

theorem scanTime_of_border {x y : Nat} (h : ¬processed x y) : scanTime x y = 30627 := if_neg h

theorem scanTime_lt_iff {x y : Nat} : scanTime x y < 30627 ↔ processed x y := by
  by_cases h : processed x y
  · obtain ⟨hx, hy⟩ := id h
    rw [scanTime_of_processed h]
    exact iff_of_true (by omega) h
  · rw [scanTime_of_border h]
    exact iff_of_false (by omega) h

theorem scanTime_le (x y : Nat) : scanTime x y ≤ 30627 := by
  rw [scanTime]
  split <;> omega

theorem scanTime_eq_iff {k x y : Nat} (hk : k < 30627) : scanTime x y = k ↔ x = k % 249 ∧ y = k / 249 := by
  rw [scanTime]
  split <;> omega

/-! ### The scan pixel by pixel -/

section
variable (pal : Palette) (pol : WestEdge) (raster : List Rgb)

theorem accAfter_zero : accAfter pal pol raster 0 = accInit raster := rfl

theorem accAfter_succ {k : Nat} (hk : k < 30627) :
    accAfter pal pol raster (k + 1) = ditherPixel pal pol (accAfter pal pol raster k) (k % 249, k / 249) := by
  rw [accAfter, List.take_add_one, scanOrder_getElem? hk, Option.toList_some, List.foldl_concat, accAfter]

theorem accFinal_eq_accAfter : accFinal pal pol raster = accAfter pal pol raster 30627 := by
  rw [accAfter, List.take_of_length_le scanVisitsProcessedPixelsInOrder.1.le, accFinal]

theorem accAfter_size (k : Nat) : Array.size (accAfter pal pol raster k) = raster.length := by
  rw [accAfter, scan_size, accInit_size]

/-- The accumulator of (x, y) when its pixel is processed; of a border pixel, at the end of the scan. -/
def oldValue (x y : Nat) : Triple := (accAfter pal pol raster (scanTime x y)).at (pixelIndex x y)

/-- The error of (x, y) as far as the first k processed pixels have errors. -/
def errorBefore (k x y : Nat) : Triple :=
  if scanTime x y < k then errorOf pal (oldValue pal pol raster x y) else Triple.zero

theorem errorBefore_zero : errorBefore pal pol raster 0 = fun _ _ => Triple.zero := by
  funext x y
  exact if_neg (Nat.not_lt_zero _)

/-- The error of the k-th processed pixel, at its place. -/
def newError (k : Nat) : Nat → Nat → Triple :=
  errorAt (k % 249) (k / 249) (errorOf pal ((accAfter pal pol raster k).at (pixelIndex (k % 249) (k / 249))))

theorem newError_eq_zero {k x y : Nat} (hk : k < 30627) (h : scanTime x y ≠ k) :
    newError pal pol raster k x y = Triple.zero := if_neg (mt (scanTime_eq_iff hk).2 h)

/-- The k-th processed pixel brings one more error. -/
theorem errorBefore_succ {k : Nat} (hk : k < 30627) :
    errorBefore pal pol raster (k + 1) =
      fun x y => (errorBefore pal pol raster k x y).add (newError pal pol raster k x y) := by
  funext x y
  by_cases h : scanTime x y = k
  · obtain ⟨rfl, rfl⟩ := (scanTime_eq_iff hk).1 h
    simp [errorBefore, newError, errorAt, oldValue, h]
  · have hlt : scanTime x y < k + 1 ↔ scanTime x y < k := by omega
    simp only [errorBefore, hlt, newError_eq_zero pal pol raster hk h, Triple.add_zero]

theorem errorBefore_eq_zero {k x y : Nat} (h : k ≤ scanTime x y) : errorBefore pal pol raster k x y = Triple.zero :=
  if_neg (Nat.not_lt.2 h)

end

theorem received_zero (pol : WestEdge) (x y : Nat) : received pol (fun _ _ => Triple.zero) x y = Triple.zero := by
  simp [received, share_zero]

/-- Row-major order is scan order: of the pixels before a processed one only border pixels are not scanned before it. -/
theorem scanTime_lt_of_before {x y x' y' : Nat} (h : processed x y) (hbefore : y' < y ∨ y' = y ∧ x' < x) :
    scanTime x' y' < scanTime x y ∨ ¬processed x' y' := by
  by_cases h' : processed x' y'
  · rw [scanTime_of_processed h, scanTime_of_processed h']
    obtain ⟨hx', -⟩ := h'
    exact .inl (by omega)
  · exact .inr h'

/-- A pixel receives its shares from processed pixels scanned before it: no other errors matter (R160). -/
theorem received_congr {e e' : Nat → Nat → Triple} (pol : WestEdge) {x y : Nat}
    (h : ∀ x' y', scanTime x' y' < scanTime x y ∨ ¬processed x' y' → e x' y' = e' x' y') :
    received pol e x y = received pol e' x y := by
  by_cases hp : processed x y
  · have hterm (p : Prop) [Decidable p] (x' y' : Nat) (w : Int) (hb : p → y' < y ∨ y' = y ∧ x' < x) :
        (if p then share (e x' y') w else Triple.zero) = if p then share (e' x' y') w else Triple.zero :=
      ite_congr rfl (fun hcond => by rw [h _ _ (scanTime_lt_of_before hp (hb hcond))]) fun _ => rfl
    rw [received, hterm _ _ _ 7 (by omega), hterm _ _ _ 3 (by omega), hterm _ _ _ 5 (by omega),
      hterm _ _ _ 1 (by omega), hterm _ _ _ 3 (by omega), received]
  · have heq : e = e' := by
      funext x' y'
      refine h x' y' ?_
      rw [scanTime_of_border hp, scanTime_lt_iff]
      exact em _
    rw [heq]

/-- A processed pixel receives nothing from pixels that are processed later (R160). -/
theorem received_newError_of_scanTime_lt (pal : Palette) (pol : WestEdge) (raster : List Rgb) {k x y : Nat}
    (h : scanTime x y < k) (hk : k < 30627) : received pol (newError pal pol raster k) x y = Triple.zero := by
  rw [← received_zero pol x y]
  refine received_congr pol fun x' y' hearlier => newError_eq_zero pal pol raster hk ?_
  obtain hlt | hborder := hearlier
  · omega
  · rw [scanTime_of_border hborder]
    omega

/-- All shares that a pixel receives come from pixels processed before it (R160). -/
theorem received_errorBefore_scanTime (pal : Palette) (pol : WestEdge) (raster : List Rgb) (x y : Nat) :
    received pol (errorBefore pal pol raster (scanTime x y)) x y =
      received pol (errorBefore pal pol raster 30627) x y := by
  refine received_congr pol fun x' y' hearlier => ?_
  obtain hlt | hborder := hearlier
  · rw [errorBefore, errorBefore, if_pos hlt, if_pos (hlt.trans_le (scanTime_le x y))]
  · have hend := scanTime_of_border hborder
    rw [errorBefore_eq_zero pal pol raster (hend ▸ scanTime_le x y), errorBefore_eq_zero pal pol raster hend.ge]

section
variable (pal : Palette) (pol : WestEdge) {raster : List Rgb} (hlen : raster.length = 31000) {k x y : Nat}
  (hx : x < 250) (hy : y < 124)
include hlen hx hy

/-- The work on the k-th processed pixel, seen from any other pixel (x, y). -/
theorem accAfter_succ_at (hk : k < 30627) (hne : scanTime x y ≠ k) :
    (accAfter pal pol raster (k + 1)).at (pixelIndex x y) =
      ((accAfter pal pol raster k).at (pixelIndex x y)).add
        (received pol (newError pal pol raster k) x y) := by
  rw [accAfter_succ pal pol raster hk, ditherPixel_at_of_ne pal pol ((accAfter_size pal pol raster k).trans hlen)
    (by omega) (by omega) hx hy (mt (scanTime_eq_iff hk).2 hne), newError]

/-- Until its pixel is processed an accumulator holds the source value and the shares received so far (R161). -/
theorem accAfter_at_of_le_scanTime {c : Rgb} (hc : raster[pixelIndex x y]? = some c) (hk : k ≤ scanTime x y) :
    (accAfter pal pol raster k).at (pixelIndex x y) =
      (pixelQ8 c).add (received pol (errorBefore pal pol raster k) x y) := by
  induction k with
  | zero =>
    obtain ⟨hp, rfl⟩ := List.getElem?_eq_some_iff.1 hc
    rw [accAfter_zero, accInit_at hp, errorBefore_zero, received_zero, Triple.add_zero]
  | succ k ih =>
    have hk' : k < 30627 := hk.trans (scanTime_le x y)
    have hdisjoint (x y : Nat) :
        errorBefore pal pol raster k x y = Triple.zero ∨ newError pal pol raster k x y = Triple.zero :=
      (le_or_gt k (scanTime x y)).imp (errorBefore_eq_zero pal pol raster) fun h =>
        newError_eq_zero pal pol raster hk' h.ne
    rw [accAfter_succ_at pal pol hlen hx hy hk' (by omega), ih (by omega), errorBefore_succ pal pol raster hk',
      received_add pol hdisjoint, Triple.add_assoc]

/-- From the moment its pixel is processed an accumulator holds the palette value (R160). -/
theorem accAfter_at_of_scanTime_lt (h : scanTime x y < k) (hk : k ≤ 30627) :
    (accAfter pal pol raster k).at (pixelIndex x y) =
      pixelQ8 (paletteRgb pal (quantizeS pal (oldValue pal pol raster x y) 256)) := by
  induction k with
  | zero => exact absurd h (Nat.not_lt_zero _)
  | succ k ih =>
    by_cases hlast : scanTime x y = k
    · obtain ⟨rfl, rfl⟩ := (scanTime_eq_iff hk).1 hlast
      rw [accAfter_succ pal pol raster hk, oldValue, hlast]
      exact ditherPixel_at_self pal pol ((accAfter_size pal pol raster k).trans hlen) (by omega) (by omega)
    · have hlt : scanTime x y < k := by omega
      rw [accAfter_succ_at pal pol hlen hx hy hk hlast, ih hlt (by omega),
        received_newError_of_scanTime_lt pal pol raster hlt hk, Triple.add_zero]

end

end Sys2Proof.Machine
end

section
/-! SUPPORT. DITHER as a whole: what it writes, by pixel (R157, R160 to R162). -/

open Sys2Proof.Claims

namespace Sys2Proof.Machine

/-! ### What DITHER writes -/

/-- With the dimensions declared an answer of DITHER is that of a raster that SRC holds whole. -/
theorem exec_dither_eq_next {s t : State} (hw : s.rasterW = 250) (hh : s.rasterH = 124) (h : exec .dither s = .next t) :
    ∃ raster, raster.length = 31000 ∧ (∀ p, p < 31000 → s.src.read p = raster[p]?) ∧
      t = (ditherRaster raster s).complete := by
  have hdim := dimensionsOk_of_eq hw hh
  obtain ⟨hnot, -⟩ | ⟨-, raster, hsrc, heq⟩ | ⟨-, p, -, heq⟩ := execDither_cases s
  · rw [hdim] at hnot
    cases hnot
  · obtain ⟨hlen, hread⟩ := srcOperand_ok_iff.1 hsrc
    exact ⟨raster, hlen, hread, Host.Outcome.next.inj (h.symm.trans heq)⟩
  · cases heq.symm.trans h

/-- DITHER answers when its operand is written (R42, R157). -/
theorem exec_dither_answers {s : State} (hsrc : ∀ p, p < 31000 → (s.src.read p).isSome = true) :
    ∃ t, exec .dither s = .next t :=
  exec_answers (i := .dither) fun _ => hsrc

theorem toList_getElem?_eq_at {acc : AccArray} {p : Nat} (hp : p < Array.size acc) :
    acc.toList[p]? = some (acc.at p) := by
  simp [AccArray.at, hp]

section
variable {s : State} {raster : List Rgb} (hlen : raster.length = 31000) {p : Nat} (hp : p < 31000)
include hlen hp

theorem accFinal_toList_getElem? (pal : Palette) (pol : WestEdge) :
    (accFinal pal pol raster).toList[p]? = some ((accFinal pal pol raster).at p) :=
  toList_getElem?_eq_at (by rw [accFinal_size, hlen]; exact hp)

theorem ditherRaster_dst_read :
    (ditherRaster raster s).complete.dst.read p =
      some ((accFinal s.palette s.westEdge raster).at p).toPixel := by
  rw [State.complete_dst, ditherRaster]
  simp only [Memory.read_ofList, List.getElem?_map, accFinal_toList_getElem? hlen hp, Option.map_some]

theorem ditherRaster_code_read :
    (ditherRaster raster s).complete.code.read p =
      some (codeOf (quantize8 s.palette ((accFinal s.palette s.westEdge raster).at p).toPixel)) := by
  rw [State.complete_code, ditherRaster]
  simp only [Memory.read_ofList, List.getElem?_map, accFinal_toList_getElem? hlen hp, Option.map_some]

theorem ditherRaster_acc_read :
    (ditherRaster raster s).complete.acc.read p =
      some ((accFinal s.palette s.westEdge raster).at p).toAccCell := by
  rw [State.complete_acc, ditherRaster]
  simp only [Memory.read_ofList, List.getElem?_map, accFinal_toList_getElem? hlen hp, Option.map_some]

end

/-- The three results have no element past the raster. -/
theorem ditherRaster_read_none {s : State} {raster : List Rgb} (hlen : raster.length = 31000) {p : Nat}
    (hp : 31000 ≤ p) :
    (ditherRaster raster s).complete.dst.read p = none ∧ (ditherRaster raster s).complete.code.read p = none ∧
      (ditherRaster raster s).complete.acc.read p = none := by
  have hnone : (accFinal s.palette s.westEdge raster).toList[p]? = none :=
    List.getElem?_eq_none (by rw [Array.length_toList, accFinal_size, hlen]; exact hp)
  rw [State.complete_dst, State.complete_code, State.complete_acc, ditherRaster]
  simp only [Memory.read_ofList, List.getElem?_map, hnone, Option.map_none, and_self]

/-- Settles O13: the frame is O18, and the results hold the output stage of every accumulator. -/
theorem ditherCompletes : Obligations.DitherCompletes := by
  intro s hw hh hsrc
  obtain ⟨t, ht⟩ := exec_dither_answers hsrc
  obtain ⟨-, -, hframe⟩ := commandsWriteOnlyTheirResults _ _ _ ht
  obtain ⟨raster, hlen, -, rfl⟩ := exec_dither_eq_next hw hh ht
  have hstatus : (ditherRaster raster s).complete.status = { s.status with busy := false, done := true } := by
    rw [State.complete_status, ditherRaster_status, Status.completed]
  refine ⟨_, ht, hstatus ▸ hframe, fun p hp => ⟨_, ditherRaster_dst_read hlen hp, ditherRaster_code_read hlen hp⟩,
    fun p hp => ?_, fun p hp => ditherRaster_read_none hlen hp⟩
  rw [ditherRaster_acc_read hlen hp, Option.isSome_some]

/-! ### The recurrence -/

/-- A processed pixel leaves the scan with its palette value (R160). -/
theorem accFinal_at_of_processed (pal : Palette) (pol : WestEdge) {raster : List Rgb} (hlen : raster.length = 31000)
    {x y : Nat} (h : processed x y) :
    (accFinal pal pol raster).at (pixelIndex x y) =
      pixelQ8 (paletteRgb pal (quantizeS pal (oldValue pal pol raster x y) 256)) := by
  obtain ⟨hx, hy⟩ := id h
  rw [accFinal_eq_accAfter]
  exact accAfter_at_of_scanTime_lt pal pol hlen (by omega) (by omega) (scanTime_lt_iff.2 h) le_rfl

theorem accFinal_at_of_border (pal : Palette) (pol : WestEdge) (raster : List Rgb) {x y : Nat} (h : ¬processed x y) :
    (accFinal pal pol raster).at (pixelIndex x y) = oldValue pal pol raster x y := by
  rw [accFinal_eq_accAfter, oldValue, scanTime_of_border h]

/-- The recurrence of R161. -/
theorem oldValue_eq (pal : Palette) (pol : WestEdge) {raster : List Rgb} (hlen : raster.length = 31000) {x y : Nat}
    (hx : x < 250) (hy : y < 124) {c : Rgb} (hc : raster[pixelIndex x y]? = some c) :
    oldValue pal pol raster x y = (pixelQ8 c).add (received pol (errorBefore pal pol raster 30627) x y) := by
  rw [oldValue, accAfter_at_of_le_scanTime pal pol hlen hx hy hc le_rfl, received_errorBefore_scanTime]

/-- Settles O31: `oldValue` and the errors of the whole scan solve the recurrence. -/
theorem ditherMeetsTheShareRecurrence : Obligations.DitherMeetsTheShareRecurrence := by
  intro s hw hh hsrc
  obtain ⟨t, ht⟩ := exec_dither_answers hsrc
  obtain ⟨raster, hlen, hread, rfl⟩ := exec_dither_eq_next hw hh ht
  refine ⟨_, oldValue s.palette s.westEdge raster, errorBefore s.palette s.westEdge raster 30627, ht,
    fun x y hborder => errorBefore_eq_zero _ _ _ (scanTime_of_border hborder).ge,
    fun x y hproc => if_pos (scanTime_lt_iff.2 hproc), fun x y hx hy => ?_⟩
  have hp : pixelIndex x y < 31000 := by rw [pixelIndex_eq]; omega
  have hc : raster[pixelIndex x y]? = some raster[pixelIndex x y] := List.getElem?_eq_getElem (hlen ▸ hp)
  refine ⟨_, _, (hread _ hp).trans hc, oldValue_eq _ _ hlen hx hy hc, ditherRaster_dst_read hlen hp,
    fun hproc => ?_, fun hborder => ?_, ditherRaster_code_read hlen hp⟩
  · rw [← pixelIndex_eq, accFinal_at_of_processed _ _ hlen hproc, toPixel_pixelQ8]
  · rw [← pixelIndex_eq, accFinal_at_of_border _ _ _ hborder, Triple.toPixel]

/-- Settles O32: the palette value passes the output stage as it is, and quantizing it again gives its colour. -/
theorem processedPixelsEndOnThePalette : Obligations.ProcessedPixelsEndOnThePalette := by
  intro s t hpal hw hh ht x y hx hy
  obtain ⟨raster, hlen, -, rfl⟩ := exec_dither_eq_next hw hh ht
  have hp : pixelIndex x y < 31000 := by rw [pixelIndex_eq]; omega
  have hdst := ditherRaster_dst_read (s := s) hlen hp
  have hcode := ditherRaster_code_read (s := s) hlen hp
  rw [accFinal_at_of_processed _ _ hlen ⟨hx, hy⟩, toPixel_pixelQ8] at hdst hcode
  rw [paletteColoursAreFixedPoints _ _ hpal] at hcode
  exact ⟨_, hdst, hcode⟩

/-! ### Palette images -/

/-- At scale 256 an 8-bit pixel is quantized as at scale 1 (R134). -/
theorem quantizeS_pixelQ8 (pal : Palette) (c : Rgb) : quantizeS pal (pixelQ8 c) 256 = quantize8 pal c := by
  have hscale := quantizerIsScaleInvariant pal (pixelTriple c) 256 (by decide)
  rw [quantize8, ← hscale]
  simp only [pixelQ8, pixelTriple, Int.mul_comm]

/-- A palette colour has no quantisation error (R162). -/
theorem errorOf_pixelQ8_paletteRgb {pal : Palette} (hpal : pal.wellFormed = true) (c : Colour) :
    errorOf pal (pixelQ8 (paletteRgb pal c)) = Triple.zero := by
  rw [errorOf, quantizeS_pixelQ8, paletteColoursAreFixedPoints _ _ hpal]
  simp [Triple.sub, Triple.zero]

section
variable {pal : Palette} (hpal : pal.wellFormed = true) (pol : WestEdge) {raster : List Rgb}
  (hlen : raster.length = 31000) {image : Nat → Colour}
  (himage : ∀ p, p < 31000 → raster[p]? = some (paletteRgb pal (image p)))
include hpal hlen himage

/-- On a palette image no processed pixel has an error, by induction on the scan. -/
theorem errorBefore_of_paletteImage {k : Nat} (hk : k ≤ 30627) :
    errorBefore pal pol raster k = fun _ _ => Triple.zero := by
  induction k with
  | zero => exact errorBefore_zero pal pol raster
  | succ k ih =>
    have hx : k % 249 < 250 := by omega
    have hy : k / 249 < 124 := by omega
    have hc := himage (pixelIndex (k % 249) (k / 249)) (by rw [pixelIndex_eq]; omega)
    have htime : k ≤ scanTime (k % 249) (k / 249) := ((scanTime_eq_iff hk).2 ⟨rfl, rfl⟩).ge
    rw [errorBefore_succ pal pol raster hk, newError, accAfter_at_of_le_scanTime pal pol hlen hx hy hc htime,
      ih (by omega), received_zero, Triple.add_zero, errorOf_pixelQ8_paletteRgb hpal]
    simp [errorAt]

/-- On a palette image the scan leaves every accumulator at its source value (R162). -/
theorem accFinal_at_of_paletteImage {p : Nat} (hp : p < 31000) :
    (accFinal pal pol raster).at p = pixelQ8 (paletteRgb pal (image p)) := by
  have hindex : pixelIndex (p % 250) (p / 250) = p := by rw [pixelIndex_eq]; omega
  have hx : p % 250 < 250 := by omega
  have hy : p / 250 < 124 := by omega
  have hold : oldValue pal pol raster (p % 250) (p / 250) = pixelQ8 (paletteRgb pal (image p)) := by
    rw [oldValue_eq pal pol hlen hx hy (c := paletteRgb pal (image p)) (hindex.symm ▸ himage p hp),
      errorBefore_of_paletteImage hpal pol hlen himage le_rfl, received_zero, Triple.add_zero]
  by_cases hproc : processed (p % 250) (p / 250)
  · rw [← hindex, accFinal_at_of_processed pal pol hlen hproc, hold, quantizeS_pixelQ8,
      paletteColoursAreFixedPoints _ _ hpal, hindex]
  · rw [← hindex, accFinal_at_of_border pal pol raster hproc, hold, hindex]

end

/-- Settles O33: no accumulator changes, and the output stage gives the colours and their codes back. -/
theorem ditherIsIdentityOnPaletteImages : Obligations.DitherIsIdentityOnPaletteImages := by
  intro s image hpal hw hh hsrc
  obtain ⟨t, ht⟩ := exec_dither_answers (s := s) fun p hp => by rw [hsrc p hp, Option.isSome_some]
  obtain ⟨raster, hlen, hread, rfl⟩ := exec_dither_eq_next hw hh ht
  have himage (p : Nat) (hp : p < 31000) : raster[p]? = some (paletteRgb s.palette (image p)) :=
    (hread p hp).symm.trans (hsrc p hp)
  refine ⟨_, ht, fun p hp => ?_⟩
  have hacc := accFinal_at_of_paletteImage hpal s.westEdge hlen himage hp
  constructor
  · rw [ditherRaster_dst_read hlen hp, hacc, toPixel_pixelQ8, hsrc p hp]
  · rw [ditherRaster_code_read hlen hp, hacc, toPixel_pixelQ8, paletteColoursAreFixedPoints _ _ hpal]

end Sys2Proof.Machine
end

section
/-! SUPPORT. No overflow (R163): each processed pixel adds at most 255 levels and two roundings of a half to the largest
error of the pixels before it. -/

open Sys2Proof.Claims

namespace Sys2Proof.Machine

/-! ### One channel of a triple -/

/-- f reads one of the three channels. -/
def IsChannel (f : Triple → Int) : Prop := f = Triple.r ∨ f = Triple.g ∨ f = Triple.b

theorem within_of_channels {b : Int} {v : Triple} (h : ∀ f, IsChannel f → |f v| < b) : within b v := by
  simp only [abs_lt] at h
  exact ⟨h _ (.inl rfl), h _ (.inr (.inl rfl)), h _ (.inr (.inr rfl))⟩

section
variable {f : Triple → Int} (hf : IsChannel f)
include hf

theorem IsChannel.zero : f Triple.zero = 0 := by
  obtain rfl | rfl | rfl := hf <;> rfl

theorem IsChannel.add (a b : Triple) : f (a.add b) = f a + f b := by
  obtain rfl | rfl | rfl := hf <;> rfl

theorem IsChannel.sub (a b : Triple) : f (a.sub b) = f a - f b := by
  obtain rfl | rfl | rfl := hf <;> rfl

theorem IsChannel.share (e : Triple) (w : Int) : f (share e w) = contrib (f e) w := by
  obtain rfl | rfl | rfl := hf <;> rfl

theorem IsChannel.pixelQ8 (c : Rgb) : 0 ≤ f (pixelQ8 c) ∧ f (pixelQ8 c) ≤ 65280 := by
  obtain rfl | rfl | rfl := hf <;> simp only [Machine.pixelQ8, Config.q8Scale] <;> omega

/-- A share in sixteenths is within half of the weight's part of the error (R151), if there is one at all. -/
theorem IsChannel.abs_share_le (p : Prop) [Decidable p] {e : Triple} {E w : Int} (he : |f e| ≤ E) (hw : 0 ≤ w) :
    |16 * f (if p then Machine.share e w else Triple.zero)| ≤ E * w + 8 := by
  have hE : 0 ≤ E := (abs_nonneg _).trans he
  split
  · obtain ⟨hlow, hhigh⟩ := abs_le.1 he
    have hlow' := mul_le_mul_of_nonneg_right hlow hw
    have hhigh' := mul_le_mul_of_nonneg_right hhigh hw
    rw [hf.share, contrib_eq, abs_le]
    rw [neg_mul] at hlow'
    omega
  · rw [hf.zero]
    simpa using by positivity

/-- A pixel receives at most four shares of total weight at most 16 (R161, R163). -/
theorem IsChannel.abs_received_le (pol : WestEdge) {e : Nat → Nat → Triple} {E : Int} (he : ∀ x y, |f (e x y)| ≤ E)
    (hborder : ∀ x y, ¬processed x y → e x y = Triple.zero) (x y : Nat) : |f (received pol e x y)| ≤ E + 2 := by
  have hterm (p : Prop) [Decidable p] (x' y' : Nat) {w : Int} (hw : 0 ≤ w) := abs_le.1 (hf.abs_share_le p (he x' y') hw)
  have hE : 0 ≤ E := (abs_nonneg _).trans (he x y)
  have hwest := hterm (1 ≤ x) (x - 1) y (w := 7) (by decide)
  have hnorthEast := hterm (1 ≤ y) (x + 1) (y - 1) (w := 3) (by decide)
  have hnorth := hterm (1 ≤ y) x (y - 1) (w := 5) (by decide)
  have hnorthWest := hterm (1 ≤ x ∧ 1 ≤ y) (x - 1) (y - 1) (w := 1) (by decide)
  have hedge := hterm ((pol = .clamp ∧ x = 0 ∧ 1 ≤ y) ∨ (pol = .wrap ∧ x = 249 ∧ 1 ≤ y)) 0 (y - 1) (w := 3) (by decide)
  simp only [received, hf.add, abs_le]
  by_cases hcolumn0 : x = 0
  · rw [if_neg (show ¬1 ≤ x by omega), if_neg (show ¬(1 ≤ x ∧ 1 ≤ y) by omega), hf.zero]
    omega
  · by_cases hcolumn249 : x = 249
    · have hnone (x' : Nat) (hx' : 249 ≤ x') : e x' (y - 1) = Triple.zero :=
        hborder _ _ fun ⟨hle, _⟩ => by omega
      simp only [hnone x (by omega), hnone (x + 1) (by omega), share_zero, ite_self, hf.zero]
      omega
    · rw [if_neg (show ¬(pol = .clamp ∧ x = 0 ∧ 1 ≤ y ∨ pol = .wrap ∧ x = 249 ∧ 1 ≤ y) by omega), hf.zero]
      omega

end

/-! ### Induction on the scan -/

section
variable {f : Triple → Int} (hf : IsChannel f) (pal : Palette) (pol : WestEdge) {raster : List Rgb}
  (hlen : raster.length = 31000) {k x y : Nat}
include hf hlen

/-- Until its pixel is processed an accumulator is as near to any 8-bit level as the errors before it allow. -/
theorem abs_accAfter_sub_le (hx : x < 250) (hy : y < 124) (hk : k ≤ scanTime x y)
    (herr : ∀ x' y', |f (errorBefore pal pol raster k x' y')| ≤ k * 65282) (c : Rgb) :
    |f ((accAfter pal pol raster k).at (pixelIndex x y)) - f (pixelQ8 c)| ≤ (k + 1) * 65282 := by
  have hp : pixelIndex x y < raster.length := by rw [hlen, pixelIndex_eq]; omega
  have hborder (x' y' : Nat) (h : ¬processed x' y') : errorBefore pal pol raster k x' y' = Triple.zero :=
    errorBefore_eq_zero _ _ _ ((hk.trans (scanTime_le x y)).trans (scanTime_of_border h).ge)
  have hreceived := abs_le.1 (hf.abs_received_le pol herr hborder x y)
  have hsource := hf.pixelQ8 raster[pixelIndex x y]
  have hlevel := hf.pixelQ8 c
  rw [accAfter_at_of_le_scanTime pal pol hlen hx hy (List.getElem?_eq_getElem hp) hk, hf.add, abs_le]
  omega

theorem abs_errorBefore_le (hk : k ≤ 30627) (x y : Nat) : |f (errorBefore pal pol raster k x y)| ≤ k * 65282 := by
  induction k generalizing x y with
  | zero => simp [errorBefore_zero, hf.zero]
  | succ k ih =>
    have herr := ih (by omega)
    obtain hlt | heq | hgt := lt_trichotomy (scanTime x y) k
    · have hsame : errorBefore pal pol raster (k + 1) x y = errorBefore pal pol raster k x y := by
        rw [errorBefore, errorBefore, if_pos hlt, if_pos (by omega)]
      rw [hsame]
      exact (herr x y).trans (by omega)
    · obtain ⟨hx, hy⟩ : processed x y := scanTime_lt_iff.1 (by omega)
      rw [errorBefore, if_pos (by omega), errorOf, hf.sub, oldValue, heq]
      exact_mod_cast abs_accAfter_sub_le hf pal pol hlen (by omega) (by omega) heq.ge herr _
    · rw [errorBefore_eq_zero pal pol raster hgt, hf.zero, abs_zero]
      omega

/-- Every accumulator at every point of the scan. -/
theorem abs_accAfter_le (hk : k ≤ 30627) (hx : x < 250) (hy : y < 124) :
    |f ((accAfter pal pol raster k).at (pixelIndex x y))| ≤ 30628 * 65282 := by
  by_cases htime : k ≤ scanTime x y
  · have hblack : f (pixelQ8 ⟨0, 0, 0⟩) = 0 := by
      obtain rfl | rfl | rfl := hf <;> rfl
    have hbound := abs_accAfter_sub_le hf pal pol hlen hx hy htime (abs_errorBefore_le hf pal pol hlen hk) ⟨0, 0, 0⟩
    rw [hblack, sub_zero] at hbound
    exact hbound.trans (by omega)
  · rw [accAfter_at_of_scanTime_lt pal pol hlen hx hy (by omega) hk, abs_le]
    have hlevel := hf.pixelQ8 (paletteRgb pal (quantizeS pal (oldValue pal pol raster x y) 256))
    omega

/-- A pixel about to be processed, against every palette colour. -/
theorem abs_old_sub_le (hk : k < 30627) (c : Rgb) :
    |f ((accAfter pal pol raster k).at (pixelIndex (k % 249) (k / 249))) - f (pixelQ8 c)| ≤ 30627 * 65282 := by
  have htime : k ≤ scanTime (k % 249) (k / 249) := ((scanTime_eq_iff hk).2 ⟨rfl, rfl⟩).ge
  refine (abs_accAfter_sub_le hf pal pol hlen (by omega) (by omega) htime
    (abs_errorBefore_le hf pal pol hlen hk.le) c).trans ?_
  omega

end

/-- The distance of a value to a palette colour, by the differences of their Q.8 channels. -/
theorem dist2_eq_sub_pixelQ8 (pal : Palette) (v : Triple) (c : Colour) :
    dist2 pal v 256 c = (v.r - (pixelQ8 (paletteRgb pal c)).r) ^ 2 + (v.g - (pixelQ8 (paletteRgb pal c)).g) ^ 2 +
      (v.b - (pixelQ8 (paletteRgb pal c)).b) ^ 2 := by
  simp only [dist2, pixelTriple, pixelQ8, Int.mul_comm]

/-- Settles O34: 30627 times 255 levels and 2 ulps is below every bound of the statement. -/
theorem accumulatorNeverOverflows : Obligations.AccumulatorNeverOverflows := by
  intro pal pol raster hlen
  refine ⟨fun k p hk hp => ?_, fun k x y hk hxy => ?_⟩
  · have hbound (f : Triple → Int) (hf : IsChannel f) :
        |f ((accAfter pal pol raster k).at p)| ≤ 30628 * 65282 := by
      have hindex : pixelIndex (p % 250) (p / 250) = p := by rw [pixelIndex_eq]; omega
      exact hindex ▸ abs_accAfter_le hf pal pol hlen hk (x := p % 250) (y := p / 250) (by omega) (by omega)
    exact ⟨within_of_channels fun f hf => (hbound f hf).trans_lt (by decide),
      within_of_channels fun f hf => (hbound f hf).trans_lt (by decide)⟩
  · obtain ⟨rfl, rfl⟩ : k % 249 = x ∧ k / 249 = y := by
      rw [scanOrder_getElem? hk] at hxy
      simpa using hxy
    intro old
    have hbound (f : Triple → Int) (hf : IsChannel f) (c : Colour) :
        |f old - f (pixelQ8 (paletteRgb pal c))| ≤ 30627 * 65282 := abs_old_sub_le hf pal pol hlen hk _
    have herror (f : Triple → Int) (hf : IsChannel f) : |f (errorOf pal old)| ≤ 30627 * 65282 := by
      rw [errorOf, hf.sub]
      exact hbound f hf _
    refine ⟨within_of_channels fun f hf => (herror f hf).trans_lt (by decide), fun w hw => ?_, fun c => ?_⟩
    · have hproduct (f : Triple → Int) (hf : IsChannel f) :
          -2 ^ 34 < f (errorOf pal old) * w + 8 ∧ f (errorOf pal old) * w + 8 < 2 ^ 34 := by
        obtain ⟨hlow, hhigh⟩ := abs_le.1 (herror f hf)
        obtain rfl | rfl | rfl | rfl := hw <;> omega
      exact ⟨hproduct _ (.inl rfl), hproduct _ (.inr (.inl rfl)), hproduct _ (.inr (.inr rfl))⟩
    · have hsquare (f : Triple → Int) (hf : IsChannel f) :
          (f old - f (pixelQ8 (paletteRgb pal c))) ^ 2 ≤ (30627 * 65282) ^ 2 :=
        sq_le_sq' (abs_le.1 (hbound f hf c)).1 (abs_le.1 (hbound f hf c)).2
      have hr := hsquare _ (.inl rfl)
      have hg := hsquare _ (.inr (.inl rfl))
      have hb := hsquare _ (.inr (.inr rfl))
      rw [dist2_eq_sub_pixelQ8]
      omega

end Sys2Proof.Machine
end

section
/-! SUPPORT. The packer: a packed buffer as 2-bit fields, numbered column-major. PutCode writes one field, and PACK writes
every field once with the code of its pixel (R182 to R189). -/

open Sys2Proof.Claims

namespace Sys2Proof.Machine

/-! ### The fields of a byte -/

/-- The mask 0b11 is set in its two lowest bits. -/
theorem three_getLsbD (i : Nat) : (3#8).getLsbD i = decide (i < 2) :=
  Nat.testBit_two_pow_sub_one 2 i

/-- PutCode's byte bit by bit: the code inside the field, the old bits outside it (R182). -/
theorem putField_getLsbD (off : Nat) (code : Code) (b : Byte) {j : Nat} (hj : j < 8) :
    (putField off code b).getLsbD j =
      if j = off ∨ j = off + 1 then code.getLsbD (j - off) else b.getLsbD j := by
  simp only [putField, BitVec.getLsbD_or, BitVec.getLsbD_and, BitVec.getLsbD_not, BitVec.getLsbD_shiftLeft,
    BitVec.getLsbD_setWidth, three_getLsbD, hj]
  split
  case isTrue hin => simp [show ¬j < off by omega, show j - off < 2 by omega, show j - off < 8 by omega]
  case isFalse hout =>
    by_cases hbelow : j < off
    · simp [hbelow]
    · have hpast : code.getLsbD (j - off) = false := BitVec.getLsbD_of_ge _ _ (by omega)
      simp [hbelow, hpast, show ¬j - off < 2 by omega]

theorem extractLsb'_putField_same {off : Nat} (code : Code) (b : Byte) (h : off ≤ 6) :
    (putField off code b).extractLsb' off 2 = code := by
  refine BitVec.eq_of_getLsbD_eq fun i hi => ?_
  rw [BitVec.getLsbD_extractLsb', putField_getLsbD _ _ _ (by omega), if_pos (by omega), Nat.add_sub_cancel_left]
  simp [hi]

/-- Fields that do not overlap are kept. -/
theorem extractLsb'_putField_other {off off' : Nat} (code : Code) (b : Byte) (h : off' ≤ 6)
    (hne : off + 2 ≤ off' ∨ off' + 2 ≤ off) :
    (putField off code b).extractLsb' off' 2 = b.extractLsb' off' 2 := by
  refine BitVec.eq_of_getLsbD_eq fun i hi => ?_
  rw [BitVec.getLsbD_extractLsb', BitVec.getLsbD_extractLsb', putField_getLsbD _ _ _ (by omega), if_neg (by omega)]

/-- A byte is its four fields, pixel 0 of the group in bits 7-6 (R184). -/
theorem append_fields (b : Byte) :
    (b.extractLsb' 6 2 ++ b.extractLsb' 4 2 ++ b.extractLsb' 2 2 ++ b.extractLsb' 0 2 : BitVec 8) = b := by
  refine BitVec.eq_of_getLsbD_eq fun i hi => ?_
  simp only [BitVec.getLsbD_append, BitVec.getLsbD_extractLsb']
  grind

/-! ### PutCode -/

theorem packBitOffset_le (index : Nat) : packBitOffset index ≤ 6 := Nat.sub_le _ _

theorem putCode_getElem? (buf : Array Byte) (index : Nat) (code : Code) (b : Nat) :
    (putCode buf index code)[b]? =
      if b = packByteIndex index then buf[b]?.map (putField (packBitOffset index) code) else buf[b]? := by
  rw [putCode, Array.getElem?_modify]
  simp only [eq_comm]

/-- Settles O35: bit by bit, PutCode's byte is the code in its field and the old byte elsewhere. -/
theorem putCodeWritesOneField : Obligations.PutCodeWritesOneField := by
  intro buf index code b old hold
  rw [putCode_getElem?, hold]
  by_cases hb : b = packByteIndex index
  · rw [if_pos hb]
    refine ⟨_, rfl, fun hne => absurd hb hne, fun _ =>
      ⟨extractLsb'_putField_same code old (packBitOffset_le index), fun j hj h₀ h₁ => ?_⟩⟩
    exact (putField_getLsbD _ _ _ hj).trans (if_neg (not_or_intro h₀ h₁))
  · rw [if_neg hb]
    exact ⟨old, rfl, fun _ => rfl, fun h => absurd h hb⟩

/-- The 2-bit field of an index in a buffer (R184). -/
def fieldAt (buf : Array Byte) (index : Nat) : Option Code :=
  buf[packByteIndex index]?.map (·.extractLsb' (packBitOffset index) 2)

theorem fieldAt_putCode_same {buf : Array Byte} {index : Nat} (code : Code) (h : packByteIndex index < buf.size) :
    fieldAt (putCode buf index code) index = some code := by
  rw [fieldAt, putCode_getElem?, if_pos rfl, Array.getElem?_eq_getElem h, Option.map_some, Option.map_some,
    extractLsb'_putField_same _ _ (packBitOffset_le index)]

theorem fieldAt_putCode_other {index index' : Nat} (buf : Array Byte) (code : Code) (hne : index' ≠ index) :
    fieldAt (putCode buf index code) index' = fieldAt buf index' := by
  rw [fieldAt, putCode_getElem?, fieldAt]
  by_cases hbyte : packByteIndex index' = packByteIndex index
  · have hapart : packBitOffset index + 2 ≤ packBitOffset index' ∨ packBitOffset index' + 2 ≤ packBitOffset index := by
      simp only [packByteIndex, packBitOffset] at hbyte ⊢
      omega
    rw [if_pos hbyte, Option.map_map]
    exact congrArg (Option.map · _) (funext fun b => extractLsb'_putField_other code b (packBitOffset_le index') hapart)
  · rw [if_neg hbyte]

/-- After a run of PutCodes that gives index i the code g i, the fields written hold their codes. -/
theorem fieldAt_foldl_putCode (g : Nat → Code) {buf : Array Byte} {is : List Nat} {j : Nat} (hj : j ∈ is)
    (hsize : packByteIndex j < buf.size) :
    fieldAt (is.foldl (fun buf i => putCode buf i (g i)) buf) j = some (g j) := by
  induction is using List.reverseRecOn with
  | nil => cases hj
  | append_singleton is i ih =>
    rw [List.foldl_concat]
    by_cases h : j = i
    · subst h
      exact fieldAt_putCode_same _ (by rwa [foldl_size _ fun _ _ => putCode_size _ _ _])
    · rw [fieldAt_putCode_other _ _ h]
      exact ih (by simpa [h] using hj)

/-! ### The index map -/

theorem packIndex_eq (row col : Nat) : packIndex row col = row + 124 * col := rfl

/-- Settles O36: an index has its row as remainder and its column as quotient by 124. -/
theorem packIndexIsABijection : Obligations.PackIndexIsABijection := by
  simp only [Obligations.PackIndexIsABijection, packIndex_eq]
  exact ⟨fun row col hrow hcol => by omega, fun row col row' col' hrow hcol hrow' hcol' h => by omega,
    fun i hi => ⟨i % 124, i / 124, by omega, by omega, by omega⟩⟩

/-- The indices in the order in which PACK writes them: row by row (R185). -/
def packOrder : List Nat :=
  (List.range Config.rasterHeight).flatMap fun row => (List.range Config.rasterWidth).map (packIndex row)

theorem mem_packOrder {i : Nat} (hi : i < 31000) : i ∈ packOrder := by
  obtain ⟨-, -, hsurjective⟩ := packIndexIsABijection
  obtain ⟨row, col, hrow, hcol, rfl⟩ := hsurjective i hi
  exact List.mem_flatMap.2 ⟨row, List.mem_range.2 hrow, List.mem_map_of_mem (List.mem_range.2 hcol)⟩

/-- The code that PACK gives an index: that of the pixel in its row and column (R183, R185). -/
def codeAtIndex (codes : List Code) (i : Nat) : Code := codes.toArray.getD (pixelIndex (i / 124) (i % 124)) 0

theorem codeAtIndex_packIndex (codes : List Code) {row : Nat} (col : Nat) (hrow : row < 124) :
    codeAtIndex codes (packIndex row col) = codes.toArray.getD (pixelIndex col row) 0 := by
  have hcol' : (row + 124 * col) / 124 = col := by omega
  have hrow' : (row + 124 * col) % 124 = row := by omega
  rw [codeAtIndex, packIndex_eq, hcol', hrow']

/-- PACK's two loops are one run of PutCodes. -/
theorem packRaster_eq_foldl (codes : List Code) :
    packRaster codes = packOrder.foldl (fun buf i => putCode buf i (codeAtIndex codes i))
      (Array.replicate Config.packedBytes 0) := by
  rw [packRaster, packOrder, List.foldl_flatMap]
  refine List.foldl_ext _ _ _ fun buf row hrow => ?_
  simp only [packRow, List.foldl_map, codeAtIndex_packIndex codes _ (List.mem_range.1 hrow)]

/-! ### PACK -/

/-- The field of every pixel in PACK's buffer holds its code (R185, R189). -/
theorem fieldAt_packRaster {codes : List Code} (hlen : codes.length = 31000) {row col : Nat} (hrow : row < 124)
    (hcol : col < 250) : fieldAt (packRaster codes) (packIndex row col) = codes[pixelIndex col row]? := by
  have hp : pixelIndex col row < codes.length := by rw [hlen, pixelIndex_eq]; omega
  obtain ⟨hrange, -, -⟩ := packIndexIsABijection
  obtain ⟨hindex, hbyte⟩ := hrange row col hrow hcol
  rw [packRaster_eq_foldl, fieldAt_foldl_putCode _ (mem_packOrder hindex) (by rwa [Array.size_replicate]),
    codeAtIndex_packIndex codes col hrow]
  simp [hp]

/-- With the dimensions declared an answer of PACK is that of the codes that CODE holds whole. -/
theorem exec_pack_eq_next {s t : State} (hw : s.rasterW = 250) (hh : s.rasterH = 124) (h : exec .pack s = .next t) :
    ∃ codes, codes.length = 31000 ∧ (∀ p, p < 31000 → s.code.read p = codes[p]?) ∧
      t = { s with pack := Memory.ofList (packRaster codes).toList }.complete := by
  have hdim := dimensionsOk_of_eq hw hh
  obtain ⟨hnot, -⟩ | ⟨-, codes, hcode, heq⟩ | ⟨-, p, -, heq⟩ := execPack_cases s
  · rw [hdim] at hnot
    cases hnot
  · obtain ⟨hlen, hread⟩ := codeOperand_ok_iff.1 hcode
    exact ⟨codes, hlen, hread, Host.Outcome.next.inj (h.symm.trans heq)⟩
  · cases heq.symm.trans h

theorem complete_pack_read (s : State) (buf : Array Byte) (b : Nat) :
    ({ s with pack := Memory.ofList buf.toList }.complete).pack.read b = buf[b]? := by
  rw [State.complete_pack, Memory.read_ofList, Array.getElem?_toList]

/-- Settles O37: the field of a pixel in PACK's buffer is the code that PACK read for it. -/
theorem unpackingInvertsPack : Obligations.UnpackingInvertsPack := by
  intro s t hw hh ht row col hrow hcol
  obtain ⟨codes, hlen, hread, rfl⟩ := exec_pack_eq_next hw hh ht
  have hp : row * 250 + col < 31000 := by omega
  have hcode : codes[row * 250 + col]? = some codes[row * 250 + col] := List.getElem?_eq_getElem (hlen ▸ hp)
  obtain ⟨b, hb, hfield⟩ := Option.map_eq_some_iff.1 ((fieldAt_packRaster hlen hrow hcol).trans hcode)
  exact ⟨b, (complete_pack_read ..).trans hb, by rw [hread _ hp, hcode, ← hfield]; rfl⟩

/-- The four codes of a group of rows are the fields of one byte, the first in bits 7-6 (R186). -/
theorem pack_read_of_codes {s t : State} (hw : s.rasterW = 250) (hh : s.rasterH = 124) (ht : exec .pack s = .next t)
    {col k : Nat} (hcol : col < 250) (hk : k < 31) :
    ∃ b : Byte, t.pack.read (31 * col + k) = some b ∧
      ∀ i, i < 4 → s.code.read ((4 * k + i) * 250 + col) = some (b.extractLsb' (6 - 2 * i) 2) := by
  have hgroup {i : Nat} (hi : i < 4) := unpackingInvertsPack s t hw hh ht (4 * k + i) col (by omega) hcol
  have hbyte {i : Nat} (hi : i < 4) : (4 * k + i + 124 * col) / 4 = 31 * col + k := by omega
  have hoffset {i : Nat} (hi : i < 4) : (4 * k + i + 124 * col) % 4 = i := by omega
  obtain ⟨b, hb, -⟩ := hgroup (i := 0) (by decide)
  rw [hbyte (by decide)] at hb
  refine ⟨b, hb, fun i hi => ?_⟩
  obtain ⟨b', hb', hcode⟩ := hgroup hi
  rw [hbyte hi, hb, Option.some.injEq] at hb'
  rwa [hoffset hi, ← hb'] at hcode

/-- Settles O14: PACK writes its whole buffer, and a byte is the four codes that unpacking gives back (O37). -/
theorem packGivesTheClosedForm : Obligations.PackGivesTheClosedForm := by
  intro s hw hh hcode
  obtain ⟨t, ht⟩ := exec_answers (i := .pack) fun _ => hcode
  refine ⟨t, ht, ?_, fun col k c0 c1 c2 c3 hcol hk h0 h1 h2 h3 => ?_, ?_⟩
  · obtain ⟨codes, -, -, rfl⟩ := exec_pack_eq_next hw hh ht
    generalize Memory.ofList (packRaster codes).toList = bytes
    rfl
  · obtain ⟨b, hb, hfields⟩ := pack_read_of_codes hw hh ht hcol hk
    have hfield {i : Nat} {c : Code} (hi : i < 4) (hc : s.code.read ((4 * k + i) * 250 + col) = some c) :
        c = b.extractLsb' (6 - 2 * i) 2 := Option.some.inj (hc.symm.trans (hfields i hi))
    rw [hb, hfield (i := 0) (by decide) h0, hfield (by decide) h1, hfield (by decide) h2, hfield (by decide) h3]
    exact congrArg some (append_fields b).symm
  · obtain ⟨codes, -, -, rfl⟩ := exec_pack_eq_next hw hh ht
    have hsize := packRaster_size codes
    simp only [complete_pack_read]
    exact ⟨fun b hb => by simp [hsize, hb], fun b hb => by simp [hsize, hb]⟩

end Sys2Proof.Machine
end

section
/-! SUPPORT. The FrameEncoder: the bytes of FE_FRAME by index, and the two ways ENCODE_FRAME answers (R200 to R204). -/

namespace Sys2Proof.Machine

/-! ### The bytes of FE_FRAME -/

/-- The buffer as its header, the payload and what follows it. -/
theorem frameBuffer_eq_header_append (cmd : Byte) (payload : List Byte) :
    frameBuffer cmd payload = [Config.frameStart, BitVec.ofNat 8 (payload.length + 2), cmd] ++
      (payload ++ Config.frameEnd :: List.replicate (256 - payload.length) 0) := by
  rw [frameBuffer, frameOf_length, show Config.frameBytes - (payload.length + 4) = 256 - payload.length by
    simp only [Config.frameBytes]; omega]
  simp [frameOf]

theorem frameBuffer_start (cmd : Byte) (payload : List Byte) : (frameBuffer cmd payload)[0]? = some 0x5C := by
  rw [frameBuffer_eq_header_append]; rfl

theorem frameBuffer_len (cmd : Byte) (payload : List Byte) :
    (frameBuffer cmd payload)[1]? = some (BitVec.ofNat 8 (payload.length + 2)) := by
  rw [frameBuffer_eq_header_append]; rfl

theorem frameBuffer_cmd (cmd : Byte) (payload : List Byte) : (frameBuffer cmd payload)[2]? = some cmd := by
  rw [frameBuffer_eq_header_append]; rfl

/-- Past the three header bytes. -/
theorem frameBuffer_getElem?_add_three (cmd : Byte) (payload : List Byte) (i : Nat) :
    (frameBuffer cmd payload)[3 + i]? =
      (payload ++ Config.frameEnd :: List.replicate (256 - payload.length) 0)[i]? := by
  rw [frameBuffer_eq_header_append, List.getElem?_append_right (Nat.le_add_right 3 i)]
  exact congrArg _ (Nat.add_sub_cancel_left 3 i)

theorem frameBuffer_payload (cmd : Byte) {payload : List Byte} {i : Nat} (hi : i < payload.length) :
    (frameBuffer cmd payload)[3 + i]? = payload[i]? := by
  rw [frameBuffer_getElem?_add_three, List.getElem?_append_left hi]

theorem frameBuffer_end (cmd : Byte) (payload : List Byte) :
    (frameBuffer cmd payload)[payload.length + 3]? = some 0x7A := by
  rw [Nat.add_comm, frameBuffer_getElem?_add_three, List.getElem?_append_right le_rfl, Nat.sub_self]
  rfl

theorem frameBuffer_fill (cmd : Byte) {payload : List Byte} {k : Nat} (hk : payload.length + 4 ≤ k) (h : k ≤ 259) :
    (frameBuffer cmd payload)[k]? = some 0 := by
  rw [frameBuffer, List.getElem?_append_right (by rwa [frameOf_length]), frameOf_length]
  exact List.getElem?_replicate_of_lt (by simp only [Config.frameBytes]; omega)

theorem frameBuffer_past_end (cmd : Byte) {payload : List Byte} {k : Nat} (hlen : payload.length ≤ 256) (hk : 260 ≤ k) :
    (frameBuffer cmd payload)[k]? = none :=
  List.getElem?_eq_none (by rwa [frameBuffer_length hlen])

/-! ### The two ways ENCODE_FRAME answers -/

theorem exec_encodeFrame_of_payload {s : State} {payload : List Byte} (hlen : s.payloadLen ≤ 253)
    (hpayload : s.payloadOperand = .ok payload) :
    exec .encodeFrame s = .next { s with
      feFrame := Memory.ofList (frameBuffer s.feCmdId payload)
      feFrameLen := BitVec.ofNat 9 (s.payloadLen + 4) }.complete := by
  have hfits : s.payloadTooLarge = false := decide_eq_false (by omega)
  simp [exec, execEncodeFrame, hfits, hpayload]

theorem exec_encodeFrame_of_tooLarge {s : State} (hlen : 254 ≤ s.payloadLen) :
    exec .encodeFrame s = .next ({ s with feFrameLen := 0 }.raiseError .payloadTooLarge) := by
  have hlarge : s.payloadTooLarge = true := decide_eq_true (by omega)
  simp [exec, execEncodeFrame, hlarge]

/-- Settles O15: ENCODE_FRAME reads the written payload whole and leaves the buffer of its frame, or fails its check. -/
theorem encodeFrameBuildsTheFrame : Obligations.EncodeFrameBuildsTheFrame := by
  refine ⟨by decide, fun s n payload hn hfits hread => ?_, fun s hlarge => exec_encodeFrame_of_tooLarge hlarge⟩
  change s.payloadLen = n at hn
  subst hn
  obtain ⟨bytes, hbytes⟩ : ∃ bytes, s.payloadOperand = .ok bytes :=
    Memory.exists_readEach_range fun i hi => by rw [hread i hi, Option.isSome_some]
  obtain ⟨hlen, hget⟩ := payloadOperand_ok_iff.1 hbytes
  refine ⟨_, exec_encodeFrame_of_payload hfits hbytes, rfl, ?_⟩
  rw [← hlen] at hfits
  simp only [State.complete_feFrame, State.complete_feFrameLen, Memory.read_ofList, ← hlen]
  refine ⟨Nat.mod_eq_of_lt (by omega), frameBuffer_start .., ⟨_, frameBuffer_len .., Nat.mod_eq_of_lt (by omega)⟩,
    frameBuffer_cmd .., fun i hi => ?_, frameBuffer_end .., fun k => frameBuffer_fill _,
    fun k => frameBuffer_past_end _ (by omega)⟩
  calc (frameBuffer s.feCmdId bytes)[3 + i]?
    _ = bytes[i]? := frameBuffer_payload _ hi
    _ = s.fePayload.read i := (hget i (hlen ▸ hi)).symm
    _ = some (payload i) := hread i (hlen ▸ hi)

end Sys2Proof.Machine
end

section
/-! SUPPORT. Error completions, and the host's procedures for sending (spec/60_exceptions.md R223, R227, R237, R239). -/

open Sys2Proof.Claims

namespace Sys2Proof.Machine

/-! ### Precise errors -/

/-- What an error completion with code `c` leaves of s: FE_FRAME_LEN is cleared by PAYLOAD_TOO_LARGE alone (R223, R227). -/
def State.afterError (s : State) (c : ErrCode) : State :=
  { s with
    status := s.status.failed c
    feFrameLen := if c = .payloadTooLarge then 0 else s.feFrameLen }

/-- Every completion that answers is a success, or leaves `State.afterError` of a code that is not 0 (R113, R114). -/
theorem exec_completed_or_afterError {i : Instr} {s t : State} (h : exec i s = .next t) :
    t.status = s.status.completed ∨ ∃ c, c ≠ .none ∧ t = s.afterError c := by
  cases i with
  | nop | quantize => cases h; exact .inl rfl
  | dither =>
    obtain ⟨-, heq⟩ | ⟨-, raster, -, heq⟩ | ⟨-, p, -, heq⟩ := execDither_cases s <;> cases heq.symm.trans h
    · exact .inr ⟨.dimensionMismatch, nofun, rfl⟩
    · exact .inl (by rw [State.complete_status, ditherRaster_status])
  | pack =>
    obtain ⟨-, heq⟩ | ⟨-, codes, -, heq⟩ | ⟨-, p, -, heq⟩ := execPack_cases s <;> cases heq.symm.trans h
    · exact .inr ⟨.dimensionMismatch, nofun, rfl⟩
    · exact .inl (by rw [State.complete_status])
  | encodeFrame =>
    obtain ⟨-, heq⟩ | ⟨-, payload, -, heq⟩ | ⟨-, k, -, heq⟩ := execEncodeFrame_cases s <;> cases heq.symm.trans h
    · exact .inr ⟨.payloadTooLarge, nofun, rfl⟩
    · exact .inl (by rw [State.complete_status])

/-- A completion step of a BUSY engine that ends with ERR, from ERR = 0, leaves `State.afterError`. -/
theorem engineStep_afterError {s t : State} (hbusy : s.status.busy = true) (herr : s.status.err = false)
    (h : engineStep s = .next t) (hterr : t.status.err = true) : ∃ c, c ≠ .none ∧ t = s.afterError c := by
  obtain ⟨hidle, -⟩ | ⟨-, i, -, heq⟩ | ⟨-, e, -, heq⟩ := engineStep_cases s
  · simp [hbusy] at hidle
  · obtain hdone | hfailed := exec_completed_or_afterError (heq.symm.trans h)
    · simp [hdone, herr] at hterr
    · exact hfailed
  · cases heq.symm.trans h
    exact ⟨.illegalCommand, nofun, rfl⟩

/-- Settles O19: a running state has ERR = 0 and DONE = 0, so ERR comes from an error completion, which keeps DONE. -/
theorem errorsArePrecise : Obligations.ErrorsArePrecise := by
  rintro s t ⟨hbusy, hdone, herr, -⟩ h hterr
  obtain ⟨c, hc, rfl⟩ := engineStep_afterError hbusy herr h hterr
  exact ⟨rfl, hdone, hc, rfl⟩

/-! ### The payloads of the Packetizer -/

/-- `payloads` are those of a buffer cut into chunks of at most 64 bytes, numbered from s on (R237). -/
inductive PayloadsFrom : Nat → List Byte → List (List Byte) → Prop
  | done (s : Nat) : PayloadsFrom s [] []
  | chunk {s : Nat} {buf : List Byte} {rest : List (List Byte)} (hne : buf ≠ [])
      (hrest : PayloadsFrom (s + 1) (buf.drop 64) rest) :
      PayloadsFrom s buf ((BitVec.ofNat 8 s :: buf.take 64) :: rest)

/-- One unit of fuel for each byte is enough for every chunk. -/
theorem packetPayloads_payloadsFrom {fuel : Nat} (s : Nat) {buf : List Byte} (h : buf.length ≤ fuel) :
    PayloadsFrom s buf (packetPayloads fuel s buf) := by
  induction fuel generalizing s buf with
  | zero =>
    obtain rfl : buf = [] := List.length_eq_zero_iff.1 (Nat.le_zero.1 h)
    exact .done s
  | succ fuel ih =>
    cases buf with
    | nil => exact .done s
    | cons b buf =>
      refine .chunk (List.cons_ne_nil b buf) (ih (s + 1) ?_)
      simp only [List.length_drop, List.length_cons] at h ⊢
      omega

theorem packetize_payloadsFrom (buf : List Byte) : PayloadsFrom 0 buf (packetize buf) :=
  packetPayloads_payloadsFrom 0 le_rfl

section
variable {s : Nat} {buf : List Byte} {payloads : List (List Byte)}

theorem PayloadsFrom.length_eq (h : PayloadsFrom s buf payloads) : payloads.length = (buf.length + 63) / 64 := by
  induction h with
  | done => rfl
  | chunk hne _ ih =>
    have hpos := List.length_pos_iff.2 hne
    rw [List.length_cons, ih, List.length_drop]
    omega

/-- The chunks in order are the buffer. -/
theorem PayloadsFrom.flatMap_tail (h : PayloadsFrom s buf payloads) : payloads.flatMap List.tail = buf := by
  induction h with
  | done => rfl
  | chunk _ _ ih => rw [List.flatMap_cons, ih, List.tail_cons, List.take_append_drop]

theorem PayloadsFrom.eq_of_getElem? (h : PayloadsFrom s buf payloads) {i : Nat} {payload : List Byte}
    (hi : payloads[i]? = some payload) : payload = BitVec.ofNat 8 (s + i) :: (buf.drop (64 * i)).take 64 := by
  induction h generalizing i with
  | done => cases hi
  | chunk _ _ ih =>
    cases i with
    | zero => exact (Option.some.inj hi).symm
    | succ i => rw [ih hi, List.drop_drop, Nat.add_right_comm, Nat.mul_succ, Nat.add_comm 64]; rfl

/-- On the wire each chunk costs its sequence byte and the four bytes of its frame. -/
theorem PayloadsFrom.sum_frame_length (h : PayloadsFrom s buf payloads) (cmd : Byte) :
    (payloads.map fun payload => (frameOf cmd payload).length).sum = buf.length + 5 * payloads.length := by
  induction h with
  | done => rfl
  | chunk _ _ ih =>
    rw [List.map_cons, List.sum_cons, ih, frameOf_length]
    simp only [List.length_cons, List.length_take, List.length_drop]
    omega

end

/-! ### The configuration payload -/

/-- The host accepts credentials up to 32 and 64 bytes, and then sends both behind their two lengths (R239). -/
theorem configPayload_eq_some {ssid password payload : List Byte} (h : configPayload ssid password = some payload) :
    ssid.length ≤ 32 ∧ password.length ≤ 64 ∧ payload.length = 2 + ssid.length + password.length := by
  unfold configPayload at h
  split at h
  · cases h
  · rename_i hfits
    cases h
    simp only [gt_iff_lt, Bool.or_eq_true, decide_eq_true_eq, not_or, not_lt] at hfits
    obtain ⟨hssid, hpassword⟩ := hfits
    exact ⟨hssid, hpassword, by simp only [List.length_append, List.length_cons, List.length_nil]⟩

/-- Settles O58: 7750 = 121 · 64 + 6, so the last of the 122 chunks has 6 bytes, and the frames have
7750 + 5 · 122 bytes. -/
theorem hostPayloadsFitTheirFrames : Obligations.HostPayloadsFitTheirFrames := by
  constructor
  · intro buf hlen
    have hcut := packetize_payloadsFrom buf
    have hcount : (packetize buf).length = 122 := by rw [hcut.length_eq, hlen]
    refine ⟨hcount, hcut.flatMap_tail, fun i payload hi => ?_, by rw [hcut.sum_frame_length, hlen, hcount]⟩
    obtain ⟨hbound, -⟩ := List.getElem?_eq_some_iff.1 hi
    rw [hcut.eq_of_getElem? hi, Nat.zero_add]
    refine ⟨rfl, ?_⟩
    rw [List.length_cons, List.length_take, List.length_drop, hlen]
    split <;> omega
  · intro ssid password payload h
    obtain ⟨hssid, hpassword, hlen⟩ := configPayload_eq_some h
    omega

end Sys2Proof.Machine
end

section
/-! SUPPORT. Reset and hazards (spec/70_reset_and_hazards.md): no step leaves a torn frame in FE_FRAME (R260), and what
the block holds after a reset (R251 to R253). -/

namespace Sys2Proof.Machine

/-! ### The frame in FE_FRAME -/

section
variable {s t : State}

/-- The frame condition speaks of FE_FRAME_LEN and FE_FRAME alone. -/
theorem State.frameBufferHoldsFrame.of_eq (h : s.frameBufferHoldsFrame) (hlen : t.feFrameLen = s.feFrameLen)
    (hframe : t.feFrame = s.feFrame) : t.frameBufferHoldsFrame := by
  unfold State.frameBufferHoldsFrame
  rw [hlen, hframe]
  exact h

theorem frameBufferHoldsFrame_of_feFrameLen_zero (h : s.feFrameLen = 0) : s.frameBufferHoldsFrame :=
  fun hne => absurd h hne

/-- Every byte of FE_FRAME is written once `frameBuffer` is there, and the frame's fields stand where R200 puts them. -/
theorem frameBufferHoldsFrame_of_frameBuffer {cmd : Byte} {payload : List Byte} (hfits : payload.length ≤ 253)
    (hlen : s.feFrameLen = BitVec.ofNat 9 (payload.length + 4))
    (hframe : s.feFrame = Memory.ofList (frameBuffer cmd payload)) : s.frameBufferHoldsFrame := by
  intro _
  have hn : s.feFrameLen.toNat = payload.length + 4 := by
    rw [hlen, BitVec.toNat_ofNat]
    exact Nat.mod_eq_of_lt (by omega)
  simp only [hn, hframe, Memory.writtenBelow, Memory.read_ofList]
  refine ⟨by omega, by omega, frameBuffer_start .., frameBuffer_len .., frameBuffer_end .., fun i hi => ?_,
    fun k hk hbound => frameBuffer_fill cmd hk (Nat.le_of_lt_succ hbound)⟩
  have hwithin : i < (frameBuffer cmd payload).length := by
    rw [frameBuffer_length (by omega)]
    simp only [Config.frameBytes]
    omega
  rw [List.getElem?_eq_getElem hwithin, Option.isSome_some]

/-- Of the five commands only ENCODE_FRAME writes FE_FRAME_LEN or FE_FRAME (R94). -/
theorem exec_keeps_frame {i : Instr} (hi : i ≠ .encodeFrame) (h : exec i s = .next t) :
    t.feFrameLen = s.feFrameLen ∧ t.feFrame = s.feFrame := by
  obtain ⟨-, -, hframe⟩ := commandsWriteOnlyTheirResults i s t h
  cases i with
  | nop | quantize | dither | pack => rw [hframe]; exact ⟨rfl, rfl⟩
  | encodeFrame => exact absurd rfl hi

/-- ENCODE_FRAME leaves a frame whatever FE_FRAME held: that of the payload, or none with FE_FRAME_LEN = 0 (R203, R204). -/
theorem exec_encodeFrame_holdsFrame (h : exec .encodeFrame s = .next t) : t.frameBufferHoldsFrame := by
  obtain ⟨-, heq⟩ | ⟨hfits, payload, hpayload, heq⟩ | ⟨-, k, -, heq⟩ := execEncodeFrame_cases s <;>
    cases heq.symm.trans h
  · exact frameBufferHoldsFrame_of_feFrameLen_zero rfl
  · obtain ⟨hlen, -⟩ := payloadOperand_ok_iff.1 hpayload
    simp only [State.payloadTooLarge, decide_eq_false_iff_not] at hfits
    exact frameBufferHoldsFrame_of_frameBuffer (by omega) (by rw [State.complete_feFrameLen, hlen])
      (State.complete_feFrame _)

theorem State.frameBufferHoldsFrame.exec {i : Instr} (h : s.frameBufferHoldsFrame) (ht : exec i s = .next t) :
    t.frameBufferHoldsFrame := by
  by_cases hi : i = .encodeFrame
  · subst hi
    exact exec_encodeFrame_holdsFrame ht
  · obtain ⟨hlen, hframe⟩ := exec_keeps_frame hi ht
    exact h.of_eq hlen hframe

theorem State.frameBufferHoldsFrame.engineStep (h : s.frameBufferHoldsFrame) (ht : engineStep s = .next t) :
    t.frameBufferHoldsFrame := by
  obtain ⟨-, heq⟩ | ⟨-, i, -, heq⟩ | ⟨-, e, -, heq⟩ := engineStep_cases s
  · cases heq.symm.trans ht
    exact h
  · exact h.exec (heq.symm.trans ht)
  · cases heq.symm.trans ht
    exact h.of_eq rfl rfl

/-- FE_FRAME_LEN and FE_FRAME are results, which the host does not write. -/
theorem State.frameBufferHoldsFrame.hostStep (h : s.frameBufferHoldsFrame) (ht : hostStep s = .next t) :
    t.frameBufferHoldsFrame :=
  have hresults := hostStep_results ht
  h.of_eq (congrArg Results.feFrameLen hresults) (congrArg Results.feFrame hresults)

end

/-- Settles O57: the host writes no result, of the engine's completions only that of ENCODE_FRAME touches FE_FRAME and it
leaves a whole frame or none, and a reset clears FE_FRAME_LEN. -/
theorem stepKeepsTheFrameWhole : Obligations.StepKeepsTheFrameWhole := by
  intro s t h ht
  have hpop : s.popTurn.frameBufferHoldsFrame := h.of_eq s.popTurn_feFrameLen s.popTurn_feFrame
  obtain ⟨-, ⟨-, hhost⟩ | ⟨-, hengine⟩ | ⟨lost, -, rfl⟩⟩ := step_next ht
  · exact hpop.hostStep hhost
  · exact hpop.engineStep hengine
  · exact frameBufferHoldsFrame_of_feFrameLen_zero rfl

/-! ### The state after a reset -/

/-- With an accepted palette a reset turn always answers, and with `resetBlock` (R251). -/
theorem step_reset {s : State} {lost : Nat} (hpal : s.palette.wellFormed = true) (hturn : s.nextTurn = .reset lost) :
    step s = .next (resetBlock lost s.popTurn) := by
  rw [step_of_wellFormed hpal, hturn, takeTurn]

/-- The registers that read a constant of the build (R22, R34). -/
def constantRegisters : List Reg := [.id, .palWhite, .palBlack, .palRed, .palYellow]

/-- Every register but those of the build's constants reads 0 after a reset (R45). -/
theorem readReg_resetBlock {r : Reg} (hr : r ∉ constantRegisters) (lost : Nat) (s : State) :
    readReg r (resetBlock lost s) = 0 := by
  cases r with
  | id | palWhite | palBlack | palRed | palYellow => exact absurd (by decide) hr
  | status => exact (by decide : Status.reset.toWord = 0)
  | intEn => exact (by decide : IntEn.reset.toWord = 0)
  | qRgb => exact (by decide : pixelToWord { r := 0, g := 0, b := 0 } = 0)
  | cmd | config | rasterW | rasterH | qCode | feCmdId | fePayloadLen | feFrameLen => rfl

/-- Settles O54: the registers by `readReg_resetBlock`, whatever was running, and a RAM without written marks has no
element to read. -/
theorem resetLeavesTheInitialState : Obligations.ResetLeavesTheInitialState := by
  intro s t lost hpal hturn ht
  cases (step_reset hpal hturn).symm.trans ht
  have hzero {r : Reg} (hr : r ∉ constantRegisters) := readReg_resetBlock hr lost s.popTurn
  exact ⟨hzero (by decide), rfl, hzero (by decide), rfl, hzero (by decide), hzero (by decide), hzero (by decide),
    hzero (by decide), hzero (by decide), hzero (by decide), hzero (by decide), rfl, rfl,
    fun i => ⟨rfl, rfl, rfl, rfl, rfl, rfl, rfl⟩⟩

end Sys2Proof.Machine
end

section
/-! SUPPORT. The state right after reset: the base case of the two invariants that every step keeps. -/

namespace Sys2Proof.Machine

/-- PALETTE_DEFAULT is a palette the model accepts: its four triples differ (R131). -/
theorem paletteDefault_wellFormed : Config.paletteDefault.wellFormed = true := by decide

/-- Settles O55: a reset block with an accepted palette meets the invariant, and its FE_FRAME_LEN of 0 claims no frame. -/
theorem resetMeetsTheInvariant : Obligations.ResetMeetsTheInvariant :=
  ⟨inv_resetWith paletteDefault_wellFormed, frameBufferHoldsFrame_of_feFrameLen_zero rfl⟩

end Sys2Proof.Machine
end
